-- ==== Sys2Proof/Word.lean ====
section
/-! DEFINITION. The two word widths of the machine (`00_scope.md` R4): 8-bit registers, memory cells and
ports; 16-bit addresses, register pairs, stack pointer and program counter. -/
namespace Sys2Proof

/-- An 8-bit register, memory cell, port value or instruction byte. -/
abbrev Byte := BitVec 8

/-- A 16-bit address, register pair, stack pointer or program counter. -/
abbrev Word := BitVec 16

end Sys2Proof
end

