-- ==== Sys2Proof/Config.lean ====
section
/-! DEFINITION. What an implementation fixes (`00_scope.md` R5) and the values the spec leaves free.

The parameters are plain data, so that a statement can quantify over them; the free values are constants
without a body, applied to the operands they depend on or to the draw counter of the state. -/
namespace Sys2Proof

/-- `HLT_PC` (R5, `45_stack_io_machine.md` R231): where `pc` stands in the halt state. -/
inductive HltPc where
  | stay      -- the address of the HLT: the source's sentence, the default
  | advance   -- the address of the byte after it: the chip
  deriving DecidableEq, Repr

/-- `EI_DELAY` (R5, `70_reset_and_hazards.md` R285): whether an interrupt can be accepted right after EI. -/
inductive EiDelay where
  | none            -- EI takes effect at once: the default
  | oneInstruction  -- not before the instruction after EI has completed: the chip
  deriving DecidableEq, Repr

/-- `AC_SUB` (R5, `41_arithmetic.md` R131): the auxiliary carry after a subtraction. -/
inductive AcSubRule where
  | adderCarry   -- carry out of bit 3 of `a + (~b) + (1 - bin)`: the default
  | borrow       -- the other sense, 1 on a borrow from bit 4
  | unspecified  -- any function of the operands: `Config.acSubFree`
  deriving DecidableEq, Repr

/-- What answers at a memory address (`MEM_MAP`, R5, `20_memory.md` R66). -/
inductive Region where
  | ram | rom | absent | device
  deriving DecidableEq, Repr

/-- One range of the memory map, both ends included. -/
structure MapRange where
  first : Word
  last  : Word
  kind  : Region
  deriving DecidableEq, Repr

/-- The parameters of R5 that are fixed for a machine. The defaults are the spec's. -/
structure Params where
  hltPc  : HltPc := .stay
  eiDelay : EiDelay := .none
  acSub  : AcSubRule := .adderCarry
  memMap : List MapRange := []
  deriving DecidableEq, Repr

/-- The byte of the `k`-th draw: what a read returns where the spec gives it any value
(`20_memory.md` R66, R67; `10_state.md` R41). Free value, log 3. -/
opaque Config.freeByte : Nat → Byte

/-- The bit of the `k`-th draw: SID where the environment leaves it open, and bit 3 of the first RIM after
a TRAP (`10_state.md` R36; `00_scope.md` R5 `SID_INPUT`). Free value, log 3. -/
opaque Config.freeBit : Nat → Bool

/-- `PSW_UNUSED` (`10_state.md` R27): the bits `u5 u3 u1` of the `k`-th draw. Free value, log 9. -/
opaque Config.freePswBits : Nat → BitVec 3

/-- `INTA_OPCODE` by default is any RST n (`60_exceptions.md` R258): the `n` of the `k`-th draw. Free value, log 13. -/
opaque Config.freeRestart : Nat → BitVec 3

/-- `AC_SUB` where the parameter is left open: any function of the operands and the borrow in. Free value, log 8. -/
opaque Config.acSubFree : Byte → Byte → Bool → Bool

end Sys2Proof
end

