-- ==== Sys2Proof/Syntax.lean ====
section
/-! DEFINITION. The instructions of the 8085 (`30_encoding.md` R88, R96), one constructor for each of the 80
rows of the opcode table, and the operand shapes they take (R83 to R87). -/
namespace Sys2Proof

/-- The seven registers a program can name (`10_state.md` R20). -/
inductive Reg where
  | b | c | d | e | h | l | a
  deriving DecidableEq, Repr

/-- The operand "R/M": a register, or M, the memory byte at the address in HL (R84, `10_state.md` R23). -/
inductive Operand8 where
  | reg (r : Reg)
  | m
  deriving DecidableEq, Repr

/-- The register pairs of LXI, DAD, INX and DCX (R85). -/
inductive Pair where
  | bc | de | hl | sp
  deriving DecidableEq, Repr

/-- The register pairs of PUSH and POP: the fourth is PSW (R85). -/
inductive StackPair where
  | bc | de | hl | psw
  deriving DecidableEq, Repr

/-- The pointer pairs of LDAX and STAX: BC or DE only (R85). -/
inductive PointerPair where
  | bc | de
  deriving DecidableEq, Repr

/-- The conditions of the conditional jumps, calls and returns (`44_conditional_branch.md` R200). -/
inductive Cond where
  | nz | z | nc | c | po | pe | p | m
  deriving DecidableEq, Repr

/-- The instruction set. Operands are fields of the instruction: register codes, `d8`, `p8`, `d16`, `a16`, `nnn` (R82, R83). -/
inductive Instr where
  -- data transfer
  | mov (dst src : Operand8)
  | mvi (dst : Operand8) (d8 : Byte)
  | lxi (rp : Pair) (d16 : Word)
  | lda (a16 : Word)
  | sta (a16 : Word)
  | lhld (a16 : Word)
  | shld (a16 : Word)
  | ldax (rp : PointerPair)
  | stax (rp : PointerPair)
  | xchg
  -- arithmetic
  | add (src : Operand8)
  | adc (src : Operand8)
  | aci (d8 : Byte)
  | adi (d8 : Byte)
  | sbb (src : Operand8)
  | sub (src : Operand8)
  | sbi (d8 : Byte)
  | sui (d8 : Byte)
  | inr (dst : Operand8)
  | dcr (dst : Operand8)
  | inx (rp : Pair)
  | dcx (rp : Pair)
  | daa
  | dad (rp : Pair)
  -- logical
  | ana (src : Operand8)
  | ani (d8 : Byte)
  | ora (src : Operand8)
  | ori (d8 : Byte)
  | xra (src : Operand8)
  | xri (d8 : Byte)
  | cma
  | cmp (src : Operand8)
  | cpi (d8 : Byte)
  | cmc
  | stc
  | rlc
  | ral
  | rrc
  | rar
  -- branch control
  | jmp (a16 : Word)
  | pchl
  | call (a16 : Word)
  | ret
  | xthl
  -- conditional jumps
  | jnz (a16 : Word)
  | jz (a16 : Word)
  | jnc (a16 : Word)
  | jc (a16 : Word)
  | jpo (a16 : Word)
  | jpe (a16 : Word)
  | jp (a16 : Word)
  | jm (a16 : Word)
  -- conditional calls
  | cnz (a16 : Word)
  | cz (a16 : Word)
  | cnc (a16 : Word)
  | cc (a16 : Word)
  | cpo (a16 : Word)
  | cpe (a16 : Word)
  | cp (a16 : Word)
  | cm (a16 : Word)
  -- conditional returns
  | rnz
  | rz
  | rnc
  | rc
  | rpo
  | rpe
  | rp
  | rm
  -- stack, I/O and machine control
  | nop
  | hlt
  | push (rp : StackPair)
  | pop (rp : StackPair)
  | rst (nnn : BitVec 3)
  | sphl
  | inp (p8 : Byte)
  | out (p8 : Byte)
  | ei
  | di
  | rim
  | sim
  deriving DecidableEq, Repr

end Sys2Proof
end

