-- ==== Sys2Proof/WellFormed.lean ====
section
/-! DEFINITION. Which terms of `Instr` are instructions of the machine. Every operand field admits every value
(`30_encoding.md` R89: "Reserved operand values: none") but one: there is no memory-to-memory MOV (R95). -/
namespace Sys2Proof

/-- "The source's `MOV Rd/M, Rs/M` allows M on either side, not both": the pattern is HLT's (R95). -/
def Instr.wf : Instr → Bool
  | .mov .m .m => false
  | _ => true

end Sys2Proof
end

