-- ==== Sys2Proof/Decode.lean ====
section
/-! DEFINITION. Decoding and encoding, both written from the format tables of `30_encoding.md` R80 to R89.
The decoder is total on bytes and rejects by name; the encoder stands after it. -/
namespace Sys2Proof

/-- The high-order byte of a 16-bit value. -/
def hiByte (w : Word) : Byte := w.extractLsb' 8 8

/-- The low-order byte of a 16-bit value. -/
def loByte (w : Word) : Byte := w.extractLsb' 0 8

/-- `hi ++ lo`, the high-order byte first (`00_scope.md` R6). -/
def joinBytes (hi lo : Byte) : Word := hi ++ lo

/-! ### Field codes (R84 to R86) -/

/-- Register codes `ddd`, `sss` (R84); code 110 is M. -/
def operand8OfCode (k : BitVec 3) : Operand8 :=
  match k.toNat with
  | 0 => .reg .b
  | 1 => .reg .c
  | 2 => .reg .d
  | 3 => .reg .e
  | 4 => .reg .h
  | 5 => .reg .l
  | 6 => .m
  | _ => .reg .a

/-- Pair codes `pp` of LXI, DAD, INX, DCX (R85). -/
def pairOfCode (k : BitVec 2) : Pair :=
  match k.toNat with
  | 0 => .bc
  | 1 => .de
  | 2 => .hl
  | _ => .sp

/-- Pair codes `pp` of PUSH and POP (R85). -/
def stackPairOfCode (k : BitVec 2) : StackPair :=
  match k.toNat with
  | 0 => .bc
  | 1 => .de
  | 2 => .hl
  | _ => .psw

/-! ### The opcode map (R83, R88), one quadrant of the first byte at a time -/

/-- Quadrant 00: moves with an immediate, pairs, direct loads and stores, rotates, RIM and SIM. -/
def decodeMisc (op b2 b3 : Byte) : Option Instr :=
  let mid := op.extractLsb' 3 3
  let ddd := operand8OfCode mid
  let pp := pairOfCode (op.extractLsb' 4 2)
  let a16 := joinBytes b3 b2
  match (op.extractLsb' 0 3).toNat with
  | 0 =>
    match mid.toNat with
    | 0 => some .nop
    | 4 => some .rim
    | 6 => some .sim
    | _ => none
  | 1 => if op.getLsbD 3 then some (.dad pp) else some (.lxi pp a16)
  | 2 =>
    match mid.toNat with
    | 0 => some (.stax .bc)
    | 1 => some (.ldax .bc)
    | 2 => some (.stax .de)
    | 3 => some (.ldax .de)
    | 4 => some (.shld a16)
    | 5 => some (.lhld a16)
    | 6 => some (.sta a16)
    | _ => some (.lda a16)
  | 3 => if op.getLsbD 3 then some (.dcx pp) else some (.inx pp)
  | 4 => some (.inr ddd)
  | 5 => some (.dcr ddd)
  | 6 => some (.mvi ddd b2)
  | _ =>
    match mid.toNat with
    | 0 => some .rlc
    | 1 => some .rrc
    | 2 => some .ral
    | 3 => some .rar
    | 4 => some .daa
    | 5 => some .cma
    | 6 => some .stc
    | _ => some .cmc

/-- Quadrant 01: MOV, with 0x76 tested first (R95). -/
def decodeMov (op : Byte) : Option Instr :=
  if op = 0x76#8 then some .hlt
  else some (.mov (operand8OfCode (op.extractLsb' 3 3)) (operand8OfCode (op.extractLsb' 0 3)))

/-- Quadrant 10: accumulator arithmetic and logic with a register or M. -/
def decodeAlu (op : Byte) : Option Instr :=
  let src := operand8OfCode (op.extractLsb' 0 3)
  match (op.extractLsb' 3 3).toNat with
  | 0 => some (.add src)
  | 1 => some (.adc src)
  | 2 => some (.sub src)
  | 3 => some (.sbb src)
  | 4 => some (.ana src)
  | 5 => some (.xra src)
  | 6 => some (.ora src)
  | _ => some (.cmp src)

/-- Quadrant 11: branches, stack, immediate arithmetic, I/O, control. -/
def decodeControl (op b2 b3 : Byte) : Option Instr :=
  let mid := op.extractLsb' 3 3
  let pp := op.extractLsb' 4 2
  let a16 := joinBytes b3 b2
  match (op.extractLsb' 0 3).toNat with
  | 0 =>
    match mid.toNat with
    | 0 => some .rnz
    | 1 => some .rz
    | 2 => some .rnc
    | 3 => some .rc
    | 4 => some .rpo
    | 5 => some .rpe
    | 6 => some .rp
    | _ => some .rm
  | 1 =>
    if op.getLsbD 3 then
      match pp.toNat with
      | 0 => some .ret
      | 1 => none
      | 2 => some .pchl
      | _ => some .sphl
    else some (.pop (stackPairOfCode pp))
  | 2 =>
    match mid.toNat with
    | 0 => some (.jnz a16)
    | 1 => some (.jz a16)
    | 2 => some (.jnc a16)
    | 3 => some (.jc a16)
    | 4 => some (.jpo a16)
    | 5 => some (.jpe a16)
    | 6 => some (.jp a16)
    | _ => some (.jm a16)
  | 3 =>
    match mid.toNat with
    | 0 => some (.jmp a16)
    | 1 => none
    | 2 => some (.out b2)
    | 3 => some (.inp b2)
    | 4 => some .xthl
    | 5 => some .xchg
    | 6 => some .di
    | _ => some .ei
  | 4 =>
    match mid.toNat with
    | 0 => some (.cnz a16)
    | 1 => some (.cz a16)
    | 2 => some (.cnc a16)
    | 3 => some (.cc a16)
    | 4 => some (.cpo a16)
    | 5 => some (.cpe a16)
    | 6 => some (.cp a16)
    | _ => some (.cm a16)
  | 5 =>
    if op.getLsbD 3 then
      match pp.toNat with
      | 0 => some (.call a16)
      | _ => none
    else some (.push (stackPairOfCode pp))
  | 6 =>
    match mid.toNat with
    | 0 => some (.adi b2)
    | 1 => some (.aci b2)
    | 2 => some (.sui b2)
    | 3 => some (.sbi b2)
    | 4 => some (.ani b2)
    | 5 => some (.xri b2)
    | 6 => some (.ori b2)
    | _ => some (.cpi b2)
  | _ => some (.rst mid)

/-- The instruction that the first byte `op` spells with the operand bytes `b2`, `b3`: `d8 = p8 = b2`,
`d16 = a16 = b3 ++ b2` (R82, R88, R94). `none` for the ten first bytes no instruction owns (R89). -/
def decodeBytes (op b2 b3 : Byte) : Option Instr :=
  match (op.extractLsb' 6 2).toNat with
  | 0 => decodeMisc op b2 b3
  | 1 => decodeMov op
  | 2 => decodeAlu op
  | _ => decodeControl op b2 b3

/-- The number of bytes of an instruction (R80). -/
def Instr.length : Instr → Nat
  | .mvi _ _ | .adi _ | .aci _ | .sui _ | .sbi _ | .ani _ | .xri _ | .ori _ | .cpi _ | .inp _ | .out _ => 2
  | .lxi _ _ | .lda _ | .sta _ | .lhld _ | .shld _ | .jmp _ | .call _ => 3
  | .jnz _ | .jz _ | .jnc _ | .jc _ | .jpo _ | .jpe _ | .jp _ | .jm _ => 3
  | .cnz _ | .cz _ | .cnc _ | .cc _ | .cpo _ | .cpe _ | .cp _ | .cm _ => 3
  | .mov _ _ | .ldax _ | .stax _ | .xchg => 1
  | .add _ | .adc _ | .sbb _ | .sub _ | .inr _ | .dcr _ | .inx _ | .dcx _ | .daa | .dad _ => 1
  | .ana _ | .ora _ | .xra _ | .cma | .cmp _ | .cmc | .stc | .rlc | .ral | .rrc | .rar => 1
  | .pchl | .ret | .xthl | .rnz | .rz | .rnc | .rc | .rpo | .rpe | .rp | .rm => 1
  | .nop | .hlt | .push _ | .pop _ | .rst _ | .sphl | .ei | .di | .rim | .sim => 1

/-- The length that the first byte alone fixes (R81); 1 where no instruction owns the byte, since no further
byte of it is fetched. -/
def opcodeLength (op : Byte) : Nat :=
  match decodeBytes op 0#8 0#8 with
  | some i => i.length
  | none => 1

/-- Why a list of bytes is no instruction. -/
inductive DecodeError where
  /-- No byte at all, or fewer bytes than the first byte's length asks for. -/
  | tooShort
  /-- One of the ten first bytes that belong to no instruction (R89). -/
  | undefinedOpcode (op : Byte)
  deriving DecidableEq, Repr

/-- Decode the instruction at the head of a list of bytes and return it with the bytes after it. -/
def decode : List Byte → Except DecodeError (Instr × List Byte)
  | [] => .error .tooShort
  | op :: rest =>
    if rest.length + 1 < opcodeLength op then .error .tooShort
    else
      match decodeBytes op (rest.headD 0#8) (rest.tail.headD 0#8) with
      | some i => .ok (i, rest.drop (i.length - 1))
      | none => .error (.undefinedOpcode op)

/-! ### The encoder (R83 to R87) -/

/-- Register codes (R84). -/
def Operand8.code : Operand8 → BitVec 3
  | .reg .b => 0b000#3
  | .reg .c => 0b001#3
  | .reg .d => 0b010#3
  | .reg .e => 0b011#3
  | .reg .h => 0b100#3
  | .reg .l => 0b101#3
  | .m => 0b110#3
  | .reg .a => 0b111#3

/-- Register-pair codes (R85). -/
def Pair.code : Pair → BitVec 2
  | .bc => 0b00#2
  | .de => 0b01#2
  | .hl => 0b10#2
  | .sp => 0b11#2

/-- Register-pair codes in PUSH and POP (R85). -/
def StackPair.code : StackPair → BitVec 2
  | .bc => 0b00#2
  | .de => 0b01#2
  | .hl => 0b10#2
  | .psw => 0b11#2

/-- Bit 4 alone selects BC or DE in LDAX and STAX (R83). -/
def PointerPair.code : PointerPair → BitVec 1
  | .bc => 0b0#1
  | .de => 0b1#1

/-- Condition codes `ccc` (R86). -/
def Cond.code : Cond → BitVec 3
  | .nz => 0b000#3
  | .z => 0b001#3
  | .nc => 0b010#3
  | .c => 0b011#3
  | .po => 0b100#3
  | .pe => 0b101#3
  | .p => 0b110#3
  | .m => 0b111#3

/-- Opcode, low-order byte, high-order byte (R80, R82). -/
def threeBytes (op : Byte) (w : Word) : List Byte := [op, loByte w, hiByte w]

/-- `11ccc010`, `11ccc100`, `11ccc000`: the conditional jumps, calls and returns (R83). -/
def condOpcode (cond : Cond) (shape : BitVec 3) : Byte := 0b11#2 ++ cond.code ++ shape

/-- The bytes of an instruction, opcode first, each opcode in its shape of R83. -/
def encode : Instr → List Byte
  | .mov dst src => [0b01#2 ++ dst.code ++ src.code]
  | .mvi dst d8 => [0b00#2 ++ dst.code ++ 0b110#3, d8]
  | .lxi rp d16 => threeBytes (0b00#2 ++ rp.code ++ 0b0001#4) d16
  | .lda a16 => threeBytes 0b00111010#8 a16
  | .sta a16 => threeBytes 0b00110010#8 a16
  | .lhld a16 => threeBytes 0b00101010#8 a16
  | .shld a16 => threeBytes 0b00100010#8 a16
  | .ldax rp => [0b000#3 ++ rp.code ++ 0b1010#4]
  | .stax rp => [0b000#3 ++ rp.code ++ 0b0010#4]
  | .xchg => [0b11101011#8]
  | .add src => [0b10000#5 ++ src.code]
  | .adc src => [0b10001#5 ++ src.code]
  | .aci d8 => [0b11001110#8, d8]
  | .adi d8 => [0b11000110#8, d8]
  | .sbb src => [0b10011#5 ++ src.code]
  | .sub src => [0b10010#5 ++ src.code]
  | .sbi d8 => [0b11011110#8, d8]
  | .sui d8 => [0b11010110#8, d8]
  | .inr dst => [0b00#2 ++ dst.code ++ 0b100#3]
  | .dcr dst => [0b00#2 ++ dst.code ++ 0b101#3]
  | .inx rp => [0b00#2 ++ rp.code ++ 0b0011#4]
  | .dcx rp => [0b00#2 ++ rp.code ++ 0b1011#4]
  | .daa => [0b00100111#8]
  | .dad rp => [0b00#2 ++ rp.code ++ 0b1001#4]
  | .ana src => [0b10100#5 ++ src.code]
  | .ani d8 => [0b11100110#8, d8]
  | .ora src => [0b10110#5 ++ src.code]
  | .ori d8 => [0b11110110#8, d8]
  | .xra src => [0b10101#5 ++ src.code]
  | .xri d8 => [0b11101110#8, d8]
  | .cma => [0b00101111#8]
  | .cmp src => [0b10111#5 ++ src.code]
  | .cpi d8 => [0b11111110#8, d8]
  | .cmc => [0b00111111#8]
  | .stc => [0b00110111#8]
  | .rlc => [0b00000111#8]
  | .ral => [0b00010111#8]
  | .rrc => [0b00001111#8]
  | .rar => [0b00011111#8]
  | .jmp a16 => threeBytes 0b11000011#8 a16
  | .pchl => [0b11101001#8]
  | .call a16 => threeBytes 0b11001101#8 a16
  | .ret => [0b11001001#8]
  | .xthl => [0b11100011#8]
  | .jnz a16 => threeBytes (condOpcode .nz 0b010#3) a16
  | .jz a16 => threeBytes (condOpcode .z 0b010#3) a16
  | .jnc a16 => threeBytes (condOpcode .nc 0b010#3) a16
  | .jc a16 => threeBytes (condOpcode .c 0b010#3) a16
  | .jpo a16 => threeBytes (condOpcode .po 0b010#3) a16
  | .jpe a16 => threeBytes (condOpcode .pe 0b010#3) a16
  | .jp a16 => threeBytes (condOpcode .p 0b010#3) a16
  | .jm a16 => threeBytes (condOpcode .m 0b010#3) a16
  | .cnz a16 => threeBytes (condOpcode .nz 0b100#3) a16
  | .cz a16 => threeBytes (condOpcode .z 0b100#3) a16
  | .cnc a16 => threeBytes (condOpcode .nc 0b100#3) a16
  | .cc a16 => threeBytes (condOpcode .c 0b100#3) a16
  | .cpo a16 => threeBytes (condOpcode .po 0b100#3) a16
  | .cpe a16 => threeBytes (condOpcode .pe 0b100#3) a16
  | .cp a16 => threeBytes (condOpcode .p 0b100#3) a16
  | .cm a16 => threeBytes (condOpcode .m 0b100#3) a16
  | .rnz => [condOpcode .nz 0b000#3]
  | .rz => [condOpcode .z 0b000#3]
  | .rnc => [condOpcode .nc 0b000#3]
  | .rc => [condOpcode .c 0b000#3]
  | .rpo => [condOpcode .po 0b000#3]
  | .rpe => [condOpcode .pe 0b000#3]
  | .rp => [condOpcode .p 0b000#3]
  | .rm => [condOpcode .m 0b000#3]
  | .nop => [0b00000000#8]
  | .hlt => [0b01110110#8]
  | .push rp => [0b11#2 ++ rp.code ++ 0b0101#4]
  | .pop rp => [0b11#2 ++ rp.code ++ 0b0001#4]
  | .rst nnn => [0b11#2 ++ nnn ++ 0b111#3]
  | .sphl => [0b11111001#8]
  | .inp p8 => [0b11011011#8, p8]
  | .out p8 => [0b11010011#8, p8]
  | .ei => [0b11111011#8]
  | .di => [0b11110011#8]
  | .rim => [0b00100000#8]
  | .sim => [0b00110000#8]

/-! ### The bytes of a table word -/

/-- The three bytes of a word numbered as the opcode table numbers its bits: the first byte is bits 7..0, the
second bits 15..8, the third bits 23..16; every bit from `nbits` up is 0. -/
def tableWordBytes (nbits w : Nat) : List Byte :=
  let v := w % 2 ^ nbits
  [BitVec.ofNat 8 v, BitVec.ofNat 8 (v / 256), BitVec.ofNat 8 (v / 65536)]

/-- The instruction the decoder reads from a table word laid out in memory; `none` where it refuses. -/
def decodeTableWord (nbits w : Nat) : Option Instr :=
  match decode (tableWordBytes nbits w) with
  | .ok (i, _) => some i
  | .error _ => none

end Sys2Proof
end

