-- ==== Sys2Proof/Machine/State.lean ====
section
/-! DEFINITION. The state of the machine as plain data (`10_state.md` R20 to R41), the inputs and the record of
its environment (`00_scope.md` R5, R12), the reasons a step can stop, and the state after reset (R40). -/
namespace Sys2Proof.Machine

/-- The five flags (`10_state.md` R26). -/
structure Flags where
  s  : Bool   -- sign
  z  : Bool   -- zero
  ac : Bool   -- auxiliary carry
  p  : Bool   -- parity
  cy : Bool   -- carry
  deriving DecidableEq, Repr

/-- The memory space: the listed cells, addresses strictly rising. An unlisted cell holds no value. -/
abbrev Memory := List Host.Cell

/-- What an INTR device puts on the bus in its acknowledge cycles (`INTA_OPCODE`, `60_exceptions.md` R258). -/
inductive IntaSupply where
  | anyRestart              -- left open: any RST n (the spec's default)
  | bytes (op lo hi : Byte) -- these bytes in successive cycles; `lo` and `hi` are asked for by CALL only
  deriving DecidableEq, Repr

/-- What the environment gives the CPU at one instruction boundary (`IRQ_INPUT`, `SID_INPUT`, `INTA_OPCODE` of
`00_scope.md` R5; `60_exceptions.md` R251; the reset input of `70_reset_and_hazards.md` R280). -/
structure Boundary where
  reset  : Bool := false         -- a system reset arrives here
  trap   : Bool := false         -- a TRAP request is outstanding
  edge75 : Bool := false         -- a rising edge on RST 7.5 since the last boundary
  l65    : Bool := false         -- level of RST 6.5
  l55    : Bool := false         -- level of RST 5.5
  intr   : Bool := false         -- level of INTR
  sid    : Option Bool := none   -- level of the serial input line; `none` leaves it open
  inta   : IntaSupply := .anyRestart
  deriving DecidableEq, Repr

/-- A boundary with every line low and SID left open. -/
def Boundary.quiet : Boundary := {}

/-- An access the environment observes (`20_memory.md` R66, R67). -/
inductive Event where
  | ioRead (port v : Byte)
  | ioWrite (port v : Byte)
  | deviceRead (addr : Word) (v : Byte)
  | deviceWrite (addr : Word) (v : Byte)
  deriving DecidableEq, Repr

/-- The whole state. The first block is the spec's (`10_state.md` section 1), the second its parameters
(`00_scope.md` R5), which no step changes, the third what the environment gives and observes, the last the
model's own bookkeeping of free values. -/
structure State where
  a : Byte
  b : Byte
  c : Byte
  d : Byte
  e : Byte
  h : Byte
  l : Byte
  flags : Flags
  sp : Word
  pc : Word
  ie : Bool           -- Interrupt Enable flip-flop (R30)
  m75 : Bool          -- interrupt masks, 1 = masked (R31)
  m65 : Bool
  m55 : Bool
  r75 : Bool          -- RST 7.5 flip-flop (R32)
  sod : Bool          -- serial output latch (R33)
  halted : Bool       -- the halt state (R35)
  eiShadow : Bool     -- `ei_shadow` of `70_reset_and_hazards.md` R285
  mem : Memory
  params : Params
  now : Boundary          -- the inputs of the current boundary
  env : List Boundary     -- the inputs of the boundaries to come; all quiet after the last
  answers : List Byte     -- the environment's answers to the port and device reads to come; any byte after the last
  log : List Event        -- the accesses observed so far, oldest first
  trapSinceRim : Bool     -- a TRAP was accepted and no RIM has run since (R36)
  draws : Nat             -- how many free values have been taken
  deriving DecidableEq, Repr

/-- Why the machine stops with a fault: never. "No instruction of this hardware can fault, trap or abort"
(`60_exceptions.md` R250), so no constructor; nothing raises one. -/
inductive Fault
  deriving DecidableEq, Repr

/-- Why the model has no meaning for what comes next. -/
inductive Refusal where
  /-- An instruction without a meaning in the model, raised by `exec`'s arm for it. No arm does. Safe. -/
  | notModelled (mnemonic : String)
  /-- The first byte fetched is one of the ten that belong to no instruction (`30_encoding.md` R89, `refuse`).
  Raised by `step`. Safe: the chip goes on, and nothing is claimed of it. -/
  | undefinedOpcode (op : Byte)
  /-- An INTR device supplied an opcode other than RST n or CALL (`60_exceptions.md` R258, `refuse`).
  Raised by the acceptance of INTR in `step`. Safe: the chip goes on, and nothing is claimed of it. -/
  | intaOpcode (op : Byte)
  deriving DecidableEq, Repr

/-- The outcome of a step or of an instruction. -/
abbrev Result := Host.Outcome State Fault Refusal

/-- The machine right after reset (`10_state.md` R40). `ie`, `pc`, the masks, `r75`, `sod`, `halted` are the
spec's; A to L, the flags and SP have no value there and take 0 (DESIGN CHOICE, log 1); memory lists nothing;
the parameters are the spec's defaults (log 7); the environment is quiet (DESIGN CHOICE, log 4, log 5). -/
def State.reset : State where
  a := 0#8
  b := 0#8
  c := 0#8
  d := 0#8
  e := 0#8
  h := 0#8
  l := 0#8
  flags := { s := false, z := false, ac := false, p := false, cy := false }
  sp := 0#16
  pc := 0#16
  ie := false
  m75 := true
  m65 := true
  m55 := true
  r75 := false
  sod := false
  halted := false
  eiShadow := false
  mem := []
  params := {}
  now := Boundary.quiet
  env := []
  answers := []
  log := []
  trapSinceRim := false
  draws := 0

end Sys2Proof.Machine
end

