-- ==== Sys2Proof/Machine/Flags.lean ====
section
/-! DEFINITION. Every flag computation of the spec: the helpers `sgn`, `zer`, `par`, `szp` (`00_scope.md` R9),
`add8` and `sub8` (`41_arithmetic.md` R130, R131), the bitwise instructions' flags (`42_logical.md` R160), DAA
(R144), the flag byte of the PSW (`10_state.md` R27) and the conditions (`44_conditional_branch.md` R200). -/
namespace Sys2Proof.Machine

/-- `sgn(v) = v[7]` (R9). -/
def sgn (v : Byte) : Bool := v.getLsbD 7

/-- `zer(v)`: 1 exactly when `v` is 0x00 (R9). -/
def zer (v : Byte) : Bool := v == 0#8

/-- The number of 1 bits of a byte. -/
def onesCount (v : Byte) : Nat :=
  (v.getLsbD 0).toNat + (v.getLsbD 1).toNat + (v.getLsbD 2).toNat + (v.getLsbD 3).toNat +
  (v.getLsbD 4).toNat + (v.getLsbD 5).toNat + (v.getLsbD 6).toNat + (v.getLsbD 7).toNat

/-- `par(v)`: 1 if `v` has an even number of 1 bits (R9). -/
def par (v : Byte) : Bool := onesCount v % 2 == 0

/-- `szp(r)` with the given AC and CY (R9). -/
def flagsOf (r : Byte) (ac cy : Bool) : Flags := { s := sgn r, z := zer r, ac := ac, p := par r, cy := cy }

/-- The low-order four bits as a number. -/
def lowNibble (v : Byte) : Nat := v.toNat % 16

/-- `add8(a, b, cin)` (R130): the sum modulo 256 and all five flags. -/
def add8 (a b : Byte) (cin : Bool) : Byte × Flags :=
  let t := a.toNat + b.toNat + cin.toNat
  let r := BitVec.ofNat 8 t
  (r, flagsOf r (decide (lowNibble a + lowNibble b + cin.toNat > 15)) (decide (t > 255)))

/-- The default `AC_SUB` (R131): the carry out of bit 3 of `a + (~b) + (1 - bin)`. -/
def subAdderCarry (a b : Byte) (bin : Bool) : Bool :=
  decide (lowNibble a + lowNibble (~~~b) + (1 - bin.toNat) > 15)

/-- `AC_SUB(a, b, bin)` under the machine's parameter (`00_scope.md` R5, R131). -/
def acSub (rule : AcSubRule) (a b : Byte) (bin : Bool) : Bool :=
  match rule with
  | .adderCarry => subAdderCarry a b bin
  | .borrow => !subAdderCarry a b bin
  | .unspecified => Config.acSubFree a b bin

/-- `sub8(a, b, bin)` (R131): the difference modulo 256 and all five flags; CY is the borrow. -/
def sub8 (rule : AcSubRule) (a b : Byte) (bin : Bool) : Byte × Flags :=
  let r := a - b - BitVec.ofNat 8 bin.toNat
  (r, flagsOf r (acSub rule a b bin) (decide (a.toNat < b.toNat + bin.toNat)))

/-- DAA (R144): the adjusted accumulator and all five flags, by the two steps of the rule in sequence. -/
def decimalAdjust (a : Byte) (f : Flags) : Byte × Flags :=
  let lo := decide (lowNibble a > 9) || f.ac
  let t1 := a.toNat + (if lo then 6 else 0)
  let ac := lo && decide (lowNibble a + 6 > 15)
  let c1 := f.cy || decide (t1 > 255)
  let a1 := t1 % 256
  let hi := decide (a1 / 16 > 9) || c1
  let t2 := a1 + (if hi then 0x60 else 0)
  let r := BitVec.ofNat 8 t2
  (r, flagsOf r ac (c1 || decide (t2 > 255)))

/-- The flag byte `F = S ++ Z ++ u5 ++ AC ++ u3 ++ P ++ u1 ++ CY` with `u = u5 u3 u1` (`10_state.md` R27). -/
def Flags.toByte (f : Flags) (u : BitVec 3) : Byte :=
  BitVec.ofBool f.s ++ BitVec.ofBool f.z ++ u.extractLsb' 2 1 ++ BitVec.ofBool f.ac ++
  u.extractLsb' 1 1 ++ BitVec.ofBool f.p ++ u.extractLsb' 0 1 ++ BitVec.ofBool f.cy

/-- What POP PSW loads from the byte `v`; bits 5, 3 and 1 are discarded (`10_state.md` R27). -/
def Flags.ofByte (v : Byte) : Flags :=
  { s := v.getLsbD 7, z := v.getLsbD 6, ac := v.getLsbD 4, p := v.getLsbD 2, cy := v.getLsbD 0 }

/-- `cond(ccc)` (R200). -/
def Flags.holds (f : Flags) : Cond → Bool
  | .nz => !f.z
  | .z => f.z
  | .nc => !f.cy
  | .c => f.cy
  | .po => !f.p
  | .pe => f.p
  | .p => !f.s
  | .m => f.s

end Sys2Proof.Machine
end

