-- ==== Sys2Proof/Machine/Ops.lean ====
section
/-! DEFINITION. The named operations over memory, ports, the stack and the environment, the acceptance of an
interrupt and the return from one, reset, and the fetch of an instruction's bytes. -/
namespace Sys2Proof.Machine

/-! ### The memory as data -/

/-- The value listed for an address; `none` where the cell holds no value (`10_state.md` R41). -/
def Memory.get? : Memory → Nat → Option Byte
  | [], _ => none
  | (k, v) :: m, a => if k = a then some v else Memory.get? m a

/-- Store a byte, keeping the addresses strictly rising. -/
def Memory.set : Memory → Nat → Byte → Memory
  | [], a, v => [(a, v)]
  | (k, w) :: m, a, v =>
    if a < k then (a, v) :: (k, w) :: m
    else if a = k then (a, v) :: m
    else (k, w) :: Memory.set m a v

/-- Every address listed lies from `lo` up, below 2^16, each above the one before it. -/
def Memory.risingFrom : Nat → Memory → Bool
  | _, [] => true
  | lo, (k, _) :: m => decide (lo ≤ k) && decide (k < 65536) && Memory.risingFrom (k + 1) m

/-- The canonical form: addresses strictly rising and inside the address space (`20_memory.md` R50). An unlisted
address holds no value, so no entry can equal what it reads as. -/
def Memory.wf (m : Memory) : Bool := Memory.risingFrom 0 m

/-! ### Free values and the environment's answers -/

/-- `draw(8)`: a byte the rules do not fix (`00_scope.md` R8). -/
def State.drawByte (s : State) : Byte × State :=
  (Config.freeByte s.draws, { s with draws := s.draws + 1 })

/-- `draw(1)`. -/
def State.drawBit (s : State) : Bool × State :=
  (Config.freeBit s.draws, { s with draws := s.draws + 1 })

/-- The environment's next answer to a port or device read: from its queue, or any byte (`20_memory.md` R66, R67). -/
def State.envAnswer (s : State) : Byte × State :=
  match s.answers with
  | v :: rest => (v, { s with answers := rest })
  | [] => s.drawByte

/-- Record an access the environment observes, in order. -/
def State.record (ev : Event) (s : State) : State := { s with log := s.log ++ [ev] }

/-! ### The access primitives (`20_memory.md` R66, R67) -/

/-- `MEM_MAP(addr)`: the first range that holds the address, `ram` outside every range (R66). -/
def regionOf (p : Params) (addr : Word) : Region :=
  match p.memMap.find? (fun r => decide (r.first ≤ addr) && decide (addr ≤ r.last)) with
  | some r => r.kind
  | none => .ram

/-- `MemRead(addr, 1)` (R66). A cell that holds no value gives a free byte (`10_state.md` R41, log 2). -/
def State.memRead (addr : Word) (s : State) : Byte × State :=
  match regionOf s.params addr with
  | .ram | .rom =>
    match Memory.get? s.mem addr.toNat with
    | some v => (v, s)
    | none => s.drawByte
  | .absent => s.drawByte
  | .device =>
    let r := s.envAnswer
    (r.1, r.2.record (.deviceRead addr r.1))

/-- `MemWrite(addr, 1, v)` (R66): a store to `rom` or `absent` is dropped. -/
def State.memWrite (addr : Word) (v : Byte) (s : State) : State :=
  match regionOf s.params addr with
  | .ram => { s with mem := Memory.set s.mem addr.toNat v }
  | .rom | .absent => s
  | .device => s.record (.deviceWrite addr v)

/-- `IoRead(port)` (R67): the environment's byte, and the read is recorded. -/
def State.ioRead (port : Byte) (s : State) : Byte × State :=
  let r := s.envAnswer
  (r.1, r.2.record (.ioRead port r.1))

/-- `IoWrite(port, v)` (R67): recorded, no CPU state changes. -/
def State.ioWrite (port v : Byte) (s : State) : State := s.record (.ioWrite port v)

/-! ### The program counter and the stack (`20_memory.md` R54, `30_encoding.md` R94) -/

/-- `next` of an instruction of `len` bytes: `pc + len` modulo 2^16. -/
def State.next (len : Word) (s : State) : Word := s.pc + len

/-- `pc <- next`. -/
def State.advance (len : Word) (s : State) : State := { s with pc := s.pc + len }

/-- `push16(v)` (R54): the high-order byte at SP - 1, then the low-order byte at SP - 2, then `SP <- SP - 2`. -/
def State.push16 (v : Word) (s : State) : State :=
  let s1 := s.memWrite (s.sp - 1#16) (hiByte v)
  let s2 := s1.memWrite (s.sp - 2#16) (loByte v)
  { s2 with sp := s.sp - 2#16 }

/-- `pop16()` (R54): the low-order byte from SP, then the high-order byte from SP + 1, then `SP <- SP + 2`. -/
def State.pop16 (s : State) : Word × State :=
  let lo := s.memRead s.sp
  let hi := lo.2.memRead (s.sp + 1#16)
  (joinBytes hi.1 lo.1, { hi.2 with sp := s.sp + 2#16 })

/-- `push16(back); pc <- target`: a call (`43_branch.md` R192). -/
def State.callTo (back target : Word) (s : State) : State :=
  { s.push16 back with pc := target }

/-- `pc <- pop16()` (`43_branch.md` R193): the return from a subroutine, and from an interrupt routine
(`60_exceptions.md` R260: there is no other return from interrupt). -/
def State.returnFrom (s : State) : State :=
  let r := s.pop16
  { r.2 with pc := r.1 }

/-- `8 * n`, the target of RST n (`45_stack_io_machine.md` R234). -/
def restartTarget (n : BitVec 3) : Word := n.setWidth 16 * 8#16

/-! ### Interrupts (`60_exceptions.md` R251 to R263) -/

/-- The five interrupt sources (R251). -/
inductive Source where
  | trap | rst75 | rst65 | rst55 | intr
  deriving DecidableEq, Repr

/-- The fixed entry address of a source (R257); INTR has none of its own. -/
def Source.entry : Source → Option Word
  | .trap => some 0x0024#16
  | .rst75 => some 0x003C#16
  | .rst65 => some 0x0034#16
  | .rst55 => some 0x002C#16
  | .intr => none

/-- The start of a boundary: take the environment's inputs, and latch an edge on RST 7.5 whether or not it is
masked (R251, R253, R255). -/
def State.sample (s : State) : State :=
  let b := s.env.headD Boundary.quiet
  { s with now := b, env := s.env.tail, r75 := s.r75 || b.edge75 }

/-- `IE` as the boundary test reads it: 0 while the shadow of an EI lasts, under `EI_DELAY = one_instruction`
(`70_reset_and_hazards.md` R285). -/
def State.enabled (s : State) : Bool :=
  s.ie && !(decide (s.params.eiDelay = EiDelay.oneInstruction) && s.eiShadow)

/-- The source accepted at this boundary, if any: enable and mask by R252, priority by R254. -/
def State.acceptable (s : State) : Option Source :=
  if s.now.trap then some .trap
  else if s.r75 && !s.m75 && s.enabled then some .rst75
  else if s.now.l65 && !s.m65 && s.enabled then some .rst65
  else if s.now.l55 && !s.m55 && s.enabled then some .rst55
  else if s.now.intr && s.enabled then some .intr
  else none

/-- The INTR acknowledge (R258): the CPU executes the RST n or CALL the device supplies without having
advanced `pc`; any other opcode is refused. -/
def State.acknowledge (s : State) : Result :=
  match s.now.inta with
  | .anyRestart =>
    .next ({ s with draws := s.draws + 1 }.callTo s.pc (restartTarget (Config.freeRestart s.draws)))
  | .bytes op lo hi =>
    match decodeBytes op lo hi with
    | some (.rst n) => .next (s.callTo s.pc (restartTarget n))
    | some (.call a16) => .next (s.callTo s.pc a16)
    | _ => .refused (.intaOpcode op)

/-- What the acceptance of a source clears (R256): the halt state, IE, and R75 if the source is RST 7.5. A TRAP
is noted for the first RIM after it (`10_state.md` R36). -/
def State.accepting (src : Source) (s : State) : State :=
  { s with
    halted := false
    ie := false
    r75 := if src = Source.rst75 then false else s.r75
    trapSinceRim := if src = Source.trap then true else s.trapSinceRim }

/-- Accepting an interrupt (R256): push `pc` and go to the entry address (R257); INTR by R258. -/
def State.takeInterrupt (src : Source) (s : State) : Result :=
  match src.entry with
  | some entry => .next ((s.accepting src).callTo s.pc entry)
  | none => (s.accepting src).acknowledge

/-! ### Reset (`70_reset_and_hazards.md` R280, R281) -/

/-- A system reset between two steps: the state after reset, keeping of the old state the memory contents, and
beside them only what is not the CPU's: the parameters, the environment and the draw counter (log 14). -/
def State.systemReset (s : State) : State :=
  { State.reset with
    mem := s.mem, params := s.params, now := s.now, env := s.env
    answers := s.answers, log := s.log, draws := s.draws }

/-! ### Fetch (`30_encoding.md` R82, R94) -/

/-- The first byte and the operand bytes, in ascending address order; as many as the first byte's length says
(0 stands for a byte that is not fetched). -/
def State.fetch (s : State) : (Byte × Byte × Byte) × State :=
  let op := s.memRead s.pc
  if opcodeLength op.1 = 1 then ((op.1, 0#8, 0#8), op.2)
  else
    let b2 := op.2.memRead (s.pc + 1#16)
    if opcodeLength op.1 = 2 then ((op.1, b2.1, 0#8), b2.2)
    else
      let b3 := b2.2.memRead (s.pc + 2#16)
      ((op.1, b2.1, b3.1), b3.2)

end Sys2Proof.Machine
end

