-- ==== Sys2Proof/Machine/Operands.lean ====
section
/-! DEFINITION. Every operand form: registers, register pairs, the operand R/M, the pairs of PUSH and POP, and the
accumulator operations that several instructions share. -/
namespace Sys2Proof.Machine

/-- `x[c]` (`00_scope.md` R8). -/
def State.getReg (r : Reg) (s : State) : Byte :=
  match r with
  | .b => s.b
  | .c => s.c
  | .d => s.d
  | .e => s.e
  | .h => s.h
  | .l => s.l
  | .a => s.a

/-- `x[c] <- v` (R8). -/
def State.setReg (r : Reg) (v : Byte) (s : State) : State :=
  match r with
  | .b => { s with b := v }
  | .c => { s with c := v }
  | .d => { s with d := v }
  | .e => { s with e := v }
  | .h => { s with h := v }
  | .l => { s with l := v }
  | .a => { s with a := v }

/-- `BC`, `B ++ C` (`10_state.md` R22). -/
def State.bc (s : State) : Word := joinBytes s.b s.c

/-- `DE`, `D ++ E`. -/
def State.de (s : State) : Word := joinBytes s.d s.e

/-- `HL`, `H ++ L`: also the address of the operand M (`10_state.md` R23). -/
def State.hl (s : State) : Word := joinBytes s.h s.l

/-- `rp[pp]` (R8). -/
def State.getPair (rp : Pair) (s : State) : Word :=
  match rp with
  | .bc => s.bc
  | .de => s.de
  | .hl => s.hl
  | .sp => s.sp

/-- `rp[pp] <- v` (R8): the high-order byte to the first-named register. -/
def State.setPair (rp : Pair) (v : Word) (s : State) : State :=
  match rp with
  | .bc => { s with b := hiByte v, c := loByte v }
  | .de => { s with d := hiByte v, e := loByte v }
  | .hl => { s with h := hiByte v, l := loByte v }
  | .sp => { s with sp := v }

/-- The address in the pointer pair of LDAX and STAX (`40_data_transfer.md` R117, R118). -/
def State.pointer (rp : PointerPair) (s : State) : Word :=
  match rp with
  | .bc => s.bc
  | .de => s.de

/-- `rd8(c)` (R8): a register, or the memory byte at HL. -/
def State.rd8 (o : Operand8) (s : State) : Byte × State :=
  match o with
  | .reg r => (s.getReg r, s)
  | .m => s.memRead s.hl

/-- `wr8(c, v)` (R8). -/
def State.wr8 (o : Operand8) (v : Byte) (s : State) : State :=
  match o with
  | .reg r => s.setReg r v
  | .m => s.memWrite s.hl v

/-- The 16-bit value PUSH stores (`45_stack_io_machine.md` R232). For PSW it is `A ++ F`, with the unused bits of
`F` drawn at each PUSH PSW (`10_state.md` R27). -/
def State.stackPairValue (rp : StackPair) (s : State) : Word × State :=
  match rp with
  | .bc => (s.bc, s)
  | .de => (s.de, s)
  | .hl => (s.hl, s)
  | .psw => (joinBytes s.a (s.flags.toByte (Config.freePswBits s.draws)), { s with draws := s.draws + 1 })

/-- Where POP puts the 16-bit value it read (R233). -/
def State.setStackPair (rp : StackPair) (v : Word) (s : State) : State :=
  match rp with
  | .bc => s.setPair .bc v
  | .de => s.setPair .de v
  | .hl => s.setPair .hl v
  | .psw => { s with a := hiByte v, flags := Flags.ofByte (loByte v) }

/-- `A <- add8(A, v, cin)`. -/
def State.accAdd (v : Byte) (cin : Bool) (s : State) : State :=
  let r := add8 s.a v cin
  { s with a := r.1, flags := r.2 }

/-- `A <- sub8(A, v, bin)`. -/
def State.accSub (v : Byte) (bin : Bool) (s : State) : State :=
  let r := sub8 s.params.acSub s.a v bin
  { s with a := r.1, flags := r.2 }

/-- `discard sub8(A, v, 0)`: the flags are written, A is not (`42_logical.md` R168). -/
def State.accCompare (v : Byte) (s : State) : State :=
  { s with flags := (sub8 s.params.acSub s.a v false).2 }

/-- `A <- r; szp(A); AC <- ac; CY <- 0`: the six bitwise instructions (`42_logical.md` R160). -/
def State.accLogic (r : Byte) (ac : Bool) (s : State) : State :=
  { s with a := r, flags := flagsOf r ac false }

/-- `A <- r; CY <- cy`: the rotates (`42_logical.md` R172 to R175). -/
def State.accRotate (r : Byte) (cy : Bool) (s : State) : State :=
  { s with a := r, flags := { s.flags with cy := cy } }

/-- `if cond(ccc) then pc <- a16 else pc <- next` (`44_conditional_branch.md` R201). -/
def State.jumpIf (cond : Cond) (a16 : Word) (s : State) : State :=
  if s.flags.holds cond then { s with pc := a16 } else s.advance 3#16

/-- `if cond(ccc) then { push16(next); pc <- a16 } else pc <- next` (R210). -/
def State.callIf (cond : Cond) (a16 : Word) (s : State) : State :=
  if s.flags.holds cond then s.callTo (s.next 3#16) a16 else s.advance 3#16

/-- `if cond(ccc) then pc <- pop16() else pc <- next` (R219). -/
def State.returnIf (cond : Cond) (s : State) : State :=
  if s.flags.holds cond then s.returnFrom else s.advance 1#16

end Sys2Proof.Machine
end

