-- ==== Sys2Proof/Machine/Arithmetic.lean ====
section
/-! DEFINITION. The arithmetic instructions (`41_arithmetic.md` R130 to R146). -/
namespace Sys2Proof.Machine

/-- ADD (R132): `A <- add8(A, rd8(sss), 0)`. -/
def execAdd (src : Operand8) (s : State) : Result :=
  let v := s.rd8 src
  .next ((v.2.accAdd v.1 false).advance 1#16)

/-- ADC (R133): `A <- add8(A, rd8(sss), CY)`. -/
def execAdc (src : Operand8) (s : State) : Result :=
  let v := s.rd8 src
  .next ((v.2.accAdd v.1 s.flags.cy).advance 1#16)

/-- ACI (R134): `A <- add8(A, d8, CY)`. -/
def execAci (d8 : Byte) (s : State) : Result :=
  .next ((s.accAdd d8 s.flags.cy).advance 2#16)

/-- ADI (R135): `A <- add8(A, d8, 0)`. -/
def execAdi (d8 : Byte) (s : State) : Result :=
  .next ((s.accAdd d8 false).advance 2#16)

/-- SBB (R136): `A <- sub8(A, rd8(sss), CY)`. -/
def execSbb (src : Operand8) (s : State) : Result :=
  let v := s.rd8 src
  .next ((v.2.accSub v.1 s.flags.cy).advance 1#16)

/-- SUB (R137): `A <- sub8(A, rd8(sss), 0)`. -/
def execSub (src : Operand8) (s : State) : Result :=
  let v := s.rd8 src
  .next ((v.2.accSub v.1 false).advance 1#16)

/-- SBI (R138): `A <- sub8(A, d8, CY)`. -/
def execSbi (d8 : Byte) (s : State) : Result :=
  .next ((s.accSub d8 s.flags.cy).advance 2#16)

/-- SUI (R139): `A <- sub8(A, d8, 0)`. -/
def execSui (d8 : Byte) (s : State) : Result :=
  .next ((s.accSub d8 false).advance 2#16)

/-- INR (R140): `r <- add8(v, 1, 0)` with CY kept; one read and one write of the same operand. -/
def execInr (dst : Operand8) (s : State) : Result :=
  let v := s.rd8 dst
  let r := add8 v.1 1#8 false
  .next (({ v.2 with flags := { r.2 with cy := s.flags.cy } }.wr8 dst r.1).advance 1#16)

/-- DCR (R141): `r <- sub8(v, 1, 0)` with CY kept. -/
def execDcr (dst : Operand8) (s : State) : Result :=
  let v := s.rd8 dst
  let r := sub8 s.params.acSub v.1 1#8 false
  .next (({ v.2 with flags := { r.2 with cy := s.flags.cy } }.wr8 dst r.1).advance 1#16)

/-- INX (R142): `rp[pp] <- rp[pp] + 1`, no flag. -/
def execInx (rp : Pair) (s : State) : Result :=
  .next ((s.setPair rp (s.getPair rp + 1#16)).advance 1#16)

/-- DCX (R143): `rp[pp] <- rp[pp] - 1`, no flag. -/
def execDcx (rp : Pair) (s : State) : Result :=
  .next ((s.setPair rp (s.getPair rp - 1#16)).advance 1#16)

/-- DAA (R144). -/
def execDaa (s : State) : Result :=
  let r := decimalAdjust s.a s.flags
  .next ({ s with a := r.1, flags := r.2 }.advance 1#16)

/-- DAD (R145): `t <- zext_17(HL) + zext_17(rp[pp]); HL <- t[15:0]; CY <- t[16]`. -/
def execDad (rp : Pair) (s : State) : Result :=
  let t := s.hl.toNat + (s.getPair rp).toNat
  .next (({ s with flags := { s.flags with cy := decide (t > 65535) } }.setPair .hl (BitVec.ofNat 16 t)).advance 1#16)

end Sys2Proof.Machine
end

