-- ==== Sys2Proof/Machine/Branch.lean ====
section
/-! DEFINITION. The branch control instructions (`43_branch.md` R190 to R194). -/
namespace Sys2Proof.Machine

/-- JMP (R190): `pc <- a16`. -/
def execJmp (a16 : Word) (s : State) : Result :=
  .next { s with pc := a16 }

/-- PCHL (R191): `pc <- HL`. -/
def execPchl (s : State) : Result :=
  .next { s with pc := s.hl }

/-- CALL (R192): `push16(next); pc <- a16`. -/
def execCall (a16 : Word) (s : State) : Result :=
  .next (s.callTo (s.next 3#16) a16)

/-- RET (R193): `pc <- pop16()`. -/
def execRet (s : State) : Result :=
  .next s.returnFrom

/-- XTHL (R194): reads SP, SP + 1, then writes SP + 1, SP; SP does not change. -/
def execXthl (s : State) : Result :=
  let lo := s.memRead s.sp
  let hi := lo.2.memRead (s.sp + 1#16)
  let t := (hi.2.memWrite (s.sp + 1#16) s.h).memWrite s.sp s.l
  .next ({ t with h := hi.1, l := lo.1 }.advance 1#16)

end Sys2Proof.Machine
end

