-- ==== Sys2Proof/Machine/Conditional.lean ====
section
/-! DEFINITION. The conditional jumps, calls and returns (`44_conditional_branch.md` R200 to R227). -/
namespace Sys2Proof.Machine

/-- JNZ (R202): jump if Z = 0. -/
def execJnz (a16 : Word) (s : State) : Result :=
  .next (s.jumpIf .nz a16)

/-- JZ (R203): jump if Z = 1. -/
def execJz (a16 : Word) (s : State) : Result :=
  .next (s.jumpIf .z a16)

/-- JNC (R204): jump if CY = 0. -/
def execJnc (a16 : Word) (s : State) : Result :=
  .next (s.jumpIf .nc a16)

/-- JC (R205): jump if CY = 1. -/
def execJc (a16 : Word) (s : State) : Result :=
  .next (s.jumpIf .c a16)

/-- JPO (R206): jump if P = 0. -/
def execJpo (a16 : Word) (s : State) : Result :=
  .next (s.jumpIf .po a16)

/-- JPE (R207): jump if P = 1. -/
def execJpe (a16 : Word) (s : State) : Result :=
  .next (s.jumpIf .pe a16)

/-- JP (R208): jump if S = 0. -/
def execJp (a16 : Word) (s : State) : Result :=
  .next (s.jumpIf .p a16)

/-- JM (R209): jump if S = 1. -/
def execJm (a16 : Word) (s : State) : Result :=
  .next (s.jumpIf .m a16)

/-- CNZ (R211): call if Z = 0. -/
def execCnz (a16 : Word) (s : State) : Result :=
  .next (s.callIf .nz a16)

/-- CZ (R212): call if Z = 1. -/
def execCz (a16 : Word) (s : State) : Result :=
  .next (s.callIf .z a16)

/-- CNC (R213): call if CY = 0. -/
def execCnc (a16 : Word) (s : State) : Result :=
  .next (s.callIf .nc a16)

/-- CC (R214): call if CY = 1. -/
def execCc (a16 : Word) (s : State) : Result :=
  .next (s.callIf .c a16)

/-- CPO (R215): call if P = 0. -/
def execCpo (a16 : Word) (s : State) : Result :=
  .next (s.callIf .po a16)

/-- CPE (R216): call if P = 1. -/
def execCpe (a16 : Word) (s : State) : Result :=
  .next (s.callIf .pe a16)

/-- CP (R217): call if S = 0. -/
def execCp (a16 : Word) (s : State) : Result :=
  .next (s.callIf .p a16)

/-- CM (R218): call if S = 1. -/
def execCm (a16 : Word) (s : State) : Result :=
  .next (s.callIf .m a16)

/-- RNZ (R220): return if Z = 0. -/
def execRnz (s : State) : Result :=
  .next (s.returnIf .nz)

/-- RZ (R221): return if Z = 1. -/
def execRz (s : State) : Result :=
  .next (s.returnIf .z)

/-- RNC (R222): return if CY = 0. -/
def execRnc (s : State) : Result :=
  .next (s.returnIf .nc)

/-- RC (R223): return if CY = 1. -/
def execRc (s : State) : Result :=
  .next (s.returnIf .c)

/-- RPO (R224): return if P = 0. -/
def execRpo (s : State) : Result :=
  .next (s.returnIf .po)

/-- RPE (R225): return if P = 1. -/
def execRpe (s : State) : Result :=
  .next (s.returnIf .pe)

/-- RP (R226): return if S = 0. -/
def execRp (s : State) : Result :=
  .next (s.returnIf .p)

/-- RM (R227): return if S = 1. -/
def execRm (s : State) : Result :=
  .next (s.returnIf .m)

end Sys2Proof.Machine
end

