-- ==== Sys2Proof/Machine/DataTransfer.lean ====
section
/-! DEFINITION. The data transfer instructions (`40_data_transfer.md` R110 to R120). None touches a flag (R120). -/
namespace Sys2Proof.Machine

/-- MOV (R110): `v <- rd8(sss); wr8(ddd, v)`. The pointer of M is read before a half of it is overwritten. -/
def execMov (dst src : Operand8) (s : State) : Result :=
  let v := s.rd8 src
  .next ((v.2.wr8 dst v.1).advance 1#16)

/-- MVI (R111): `wr8(ddd, d8)`. -/
def execMvi (dst : Operand8) (d8 : Byte) (s : State) : Result :=
  .next ((s.wr8 dst d8).advance 2#16)

/-- LXI (R112): `rp[pp] <- d16`. -/
def execLxi (rp : Pair) (d16 : Word) (s : State) : Result :=
  .next ((s.setPair rp d16).advance 3#16)

/-- LDA (R113): `A <- MemRead(a16, 1)`. -/
def execLda (a16 : Word) (s : State) : Result :=
  let v := s.memRead a16
  .next ({ v.2 with a := v.1 }.advance 3#16)

/-- STA (R114): `MemWrite(a16, 1, A)`. -/
def execSta (a16 : Word) (s : State) : Result :=
  .next ((s.memWrite a16 s.a).advance 3#16)

/-- LHLD (R115): L from `a16`, then H from `a16 + 1`. -/
def execLhld (a16 : Word) (s : State) : Result :=
  let lo := s.memRead a16
  let hi := lo.2.memRead (a16 + 1#16)
  .next ({ hi.2 with h := hi.1, l := lo.1 }.advance 3#16)

/-- SHLD (R116): L to `a16`, then H to `a16 + 1`. -/
def execShld (a16 : Word) (s : State) : Result :=
  .next (((s.memWrite a16 s.l).memWrite (a16 + 1#16) s.h).advance 3#16)

/-- LDAX (R117): A from the address in BC or DE. -/
def execLdax (rp : PointerPair) (s : State) : Result :=
  let v := s.memRead (s.pointer rp)
  .next ({ v.2 with a := v.1 }.advance 1#16)

/-- STAX (R118): A to the address in BC or DE. -/
def execStax (rp : PointerPair) (s : State) : Result :=
  .next ((s.memWrite (s.pointer rp) s.a).advance 1#16)

/-- XCHG (R119): HL and DE exchanged, all four reads before the writes. -/
def execXchg (s : State) : Result :=
  .next ({ s with h := s.d, d := s.h, l := s.e, e := s.l }.advance 1#16)

end Sys2Proof.Machine
end

