-- ==== Sys2Proof/Machine/Logical.lean ====
section
/-! DEFINITION. The logical instructions (`42_logical.md` R160 to R175). -/
namespace Sys2Proof.Machine

/-- ANA (R161): `A <- A & rd8(sss)`, flags by R160. -/
def execAna (src : Operand8) (s : State) : Result :=
  let v := s.rd8 src
  .next ((v.2.accLogic (s.a &&& v.1) true).advance 1#16)

/-- ANI (R162): `A <- A & d8`, flags by R160. -/
def execAni (d8 : Byte) (s : State) : Result :=
  .next ((s.accLogic (s.a &&& d8) true).advance 2#16)

/-- ORA (R163): `A <- A | rd8(sss)`, flags by R160. -/
def execOra (src : Operand8) (s : State) : Result :=
  let v := s.rd8 src
  .next ((v.2.accLogic (s.a ||| v.1) false).advance 1#16)

/-- ORI (R164): `A <- A | d8`, flags by R160. -/
def execOri (d8 : Byte) (s : State) : Result :=
  .next ((s.accLogic (s.a ||| d8) false).advance 2#16)

/-- XRA (R165): `A <- A ^ rd8(sss)`, flags by R160. -/
def execXra (src : Operand8) (s : State) : Result :=
  let v := s.rd8 src
  .next ((v.2.accLogic (s.a ^^^ v.1) false).advance 1#16)

/-- XRI (R166): `A <- A ^ d8`, flags by R160. -/
def execXri (d8 : Byte) (s : State) : Result :=
  .next ((s.accLogic (s.a ^^^ d8) false).advance 2#16)

/-- CMA (R167): `A <- ~A`, no flag. -/
def execCma (s : State) : Result :=
  .next ({ s with a := ~~~s.a }.advance 1#16)

/-- CMP (R168): the flags of `sub8(A, rd8(sss), 0)`; A is kept. -/
def execCmp (src : Operand8) (s : State) : Result :=
  let v := s.rd8 src
  .next ((v.2.accCompare v.1).advance 1#16)

/-- CPI (R169): the flags of `sub8(A, d8, 0)`; A is kept. -/
def execCpi (d8 : Byte) (s : State) : Result :=
  .next ((s.accCompare d8).advance 2#16)

/-- CMC (R170): `CY <- ~CY`. -/
def execCmc (s : State) : Result :=
  .next ({ s with flags := { s.flags with cy := !s.flags.cy } }.advance 1#16)

/-- STC (R171): `CY <- 1`. -/
def execStc (s : State) : Result :=
  .next ({ s with flags := { s.flags with cy := true } }.advance 1#16)

/-- RLC (R172): `A <- A[6:0] ++ A[7]; CY <- A[7]`. -/
def execRlc (s : State) : Result :=
  .next ((s.accRotate (s.a.extractLsb' 0 7 ++ s.a.extractLsb' 7 1) (s.a.getLsbD 7)).advance 1#16)

/-- RAL (R173): `A <- A[6:0] ++ CY; CY <- A[7]`. -/
def execRal (s : State) : Result :=
  .next ((s.accRotate (s.a.extractLsb' 0 7 ++ BitVec.ofBool s.flags.cy) (s.a.getLsbD 7)).advance 1#16)

/-- RRC (R174): `A <- A[0] ++ A[7:1]; CY <- A[0]`. -/
def execRrc (s : State) : Result :=
  .next ((s.accRotate (s.a.extractLsb' 0 1 ++ s.a.extractLsb' 1 7) (s.a.getLsbD 0)).advance 1#16)

/-- RAR (R175): `A <- CY ++ A[7:1]; CY <- A[0]`. -/
def execRar (s : State) : Result :=
  .next ((s.accRotate (BitVec.ofBool s.flags.cy ++ s.a.extractLsb' 1 7) (s.a.getLsbD 0)).advance 1#16)

end Sys2Proof.Machine
end

