-- ==== Sys2Proof/Machine/StackIo.lean ====
section
/-! DEFINITION. The stack, I/O and machine control instructions (`45_stack_io_machine.md` R230 to R241). -/
namespace Sys2Proof.Machine

/-- NOP (R230). -/
def execNop (s : State) : Result :=
  .next (s.advance 1#16)

/-- HLT (R231): the halt state, with `pc` as `HLT_PC` says. -/
def execHlt (s : State) : Result :=
  .next { s with
    halted := true
    pc := match s.params.hltPc with
      | .stay => s.pc
      | .advance => s.next 1#16 }

/-- PUSH (R232). -/
def execPush (rp : StackPair) (s : State) : Result :=
  let v := s.stackPairValue rp
  .next ((v.2.push16 v.1).advance 1#16)

/-- POP (R233). POP PSW writes all five flags. -/
def execPop (rp : StackPair) (s : State) : Result :=
  let v := s.pop16
  .next ((v.2.setStackPair rp v.1).advance 1#16)

/-- RST n (R234): `push16(next); pc <- 8 * n`. -/
def execRst (nnn : BitVec 3) (s : State) : Result :=
  .next (s.callTo (s.next 1#16) (restartTarget nnn))

/-- SPHL (R235): `SP <- HL`. -/
def execSphl (s : State) : Result :=
  .next ({ s with sp := s.hl }.advance 1#16)

/-- IN (R236): `A <- IoRead(p8)`. -/
def execInp (p8 : Byte) (s : State) : Result :=
  let v := s.ioRead p8
  .next ({ v.2 with a := v.1 }.advance 2#16)

/-- OUT (R237): `IoWrite(p8, A)`. -/
def execOut (p8 : Byte) (s : State) : Result :=
  .next ((s.ioWrite p8 s.a).advance 2#16)

/-- EI (R238): `IE <- 1`; under `EI_DELAY = one_instruction` it also sets the shadow (R285). -/
def execEi (s : State) : Result :=
  .next ({ s with ie := true, eiShadow := decide (s.params.eiDelay = EiDelay.oneInstruction) }.advance 1#16)

/-- DI (R239): `IE <- 0`, at once. -/
def execDi (s : State) : Result :=
  .next ({ s with ie := false }.advance 1#16)

/-- The level of the serial input line when RIM samples it (`SID_INPUT`, R240): the boundary's, or any bit. -/
def State.sampleSid (s : State) : Bool × State :=
  match s.now.sid with
  | some v => (v, s)
  | none => s.drawBit

/-- What RIM shows of IE in bit 3: IE, but any bit at the first RIM after a TRAP (`10_state.md` R36). -/
def State.sampleIe (s : State) : Bool × State :=
  if s.trapSinceRim then s.drawBit else (s.ie, s)

/-- RIM (R240): `A <- sid ++ R75 ++ l65 ++ l55 ++ IE ++ M75 ++ M65 ++ M55`. -/
def execRim (s : State) : Result :=
  let sid := s.sampleSid
  let ie := sid.2.sampleIe
  let v : Byte := BitVec.ofBool sid.1 ++ BitVec.ofBool s.r75 ++ BitVec.ofBool s.now.l65 ++ BitVec.ofBool s.now.l55 ++
    BitVec.ofBool ie.1 ++ BitVec.ofBool s.m75 ++ BitVec.ofBool s.m65 ++ BitVec.ofBool s.m55
  .next ({ ie.2 with a := v, trapSinceRim := false }.advance 1#16)

/-- SIM (R241): masks if A[3], `R75 <- 0` if A[4], `SOD <- A[7]` if A[6]. -/
def execSim (s : State) : Result :=
  .next ({ s with
    m75 := if s.a.getLsbD 3 then s.a.getLsbD 2 else s.m75
    m65 := if s.a.getLsbD 3 then s.a.getLsbD 1 else s.m65
    m55 := if s.a.getLsbD 3 then s.a.getLsbD 0 else s.m55
    r75 := if s.a.getLsbD 4 then false else s.r75
    sod := if s.a.getLsbD 6 then s.a.getLsbD 7 else s.sod }.advance 1#16)

end Sys2Proof.Machine
end

