-- ==== Sys2Proof/Machine/Step.lean ====
section
/-! DEFINITION. One step of the machine (`60_exceptions.md` R255, `30_encoding.md` R94), and the placing of an
instruction where the next step fetches. -/
namespace Sys2Proof.Machine

/-- Execute one instruction: fetch all its bytes, then run its rule (R94). The shadow of an earlier EI ends with
this instruction (`70_reset_and_hazards.md` R285), so it is cleared before the rule, and EI may set it again. -/
def State.runInstruction (s : State) : Host.Outcome State Fault Refusal :=
  let f := s.fetch
  match decodeBytes f.1.1 f.1.2.1 f.1.2.2 with
  | some i => exec i { f.2 with eiShadow := false }
  | none => .refused (.undefinedOpcode f.1.1)

/-- One step: sample the boundary; a reset wins (`70_reset_and_hazards.md` R280); else the first acceptable
interrupt is accepted; else the halt state idles; else one instruction runs (R255). -/
def step (s : State) : Host.Outcome State Fault Refusal :=
  let b := s.sample
  if b.now.reset then .next b.systemReset
  else
    match b.acceptable with
    | some src => b.takeInterrupt src
    | none => if b.halted then .next b else b.runInstruction

/-- The parameters with a memory cell at one address, unchanged where there is one (`ram` or `rom`) already. -/
def withCellAt (a : Word) (p : Params) : Params :=
  match regionOf p a with
  | .ram | .rom => p
  | .absent | .device => { p with memMap := { first := a, last := a, kind := .ram } :: p.memMap }

/-- The memory with the bytes of a list at an address and the ones after it, modulo 2^16. -/
def Memory.place : Memory → Word → List Byte → Memory
  | m, _, [] => m
  | m, a, v :: vs => Memory.place (Memory.set m a.toNat v) (a + 1#16) vs

/-- Whether the next boundary brings neither a reset nor an acceptable interrupt. -/
def State.nextBoundaryIdle (s : State) : Bool :=
  !s.sample.now.reset && s.sample.acceptable.isNone

/-- `s` with the instruction stored where the next step fetches, so that the very next step runs it. What the
fetch needs beside the bytes: not halted; no reset and no acceptable interrupt at the next boundary (where there is
one, that boundary is made quiet and a latched RST 7.5 request that would be accepted is dropped); memory
cells at the three addresses. At the reset state all of that holds already, and only memory changes (log 17). -/
def State.withFetchWord (s : State) (nbits w : Nat) : State :=
  { s with
    mem := Memory.place s.mem s.pc (tableWordBytes nbits w)
    halted := false
    env := if s.nextBoundaryIdle then s.env else Boundary.quiet :: s.env.tail
    r75 := s.r75 && (s.m75 || !s.enabled)
    params := withCellAt (s.pc + 2#16) (withCellAt (s.pc + 1#16) (withCellAt s.pc s.params)) }

end Sys2Proof.Machine
end

