-- ==== Sys2Proof/Machine/Timing.lean ====
section
/-! DEFINITION. The machine cycles and T-states of every instruction (`70_reset_and_hazards.md` R286 to R289).
Information only: no rule depends on a figure and the step counts no time (log 20). -/
namespace Sys2Proof.Machine

/-- The kinds of machine cycle (R288), the opcode fetch in its two lengths; `haltWait` stands for the least that
follows the fetch of HLT ("2 or more" cycles, "5 or more" T-states, R287). -/
inductive Cycle where
  | fetch4 | fetch6 | memRead | memWrite | ioRead | ioWrite | busIdle | haltWait
  deriving DecidableEq, Repr

/-- T-states of a machine cycle (R288). -/
def Cycle.tStates : Cycle → Nat
  | .fetch4 => 4
  | .fetch6 => 6
  | .memRead | .memWrite | .ioRead | .ioWrite | .busIdle => 3
  | .haltWait => 1

/-- The data read of an operand R/M: none for a register. -/
def readCycles : Operand8 → List Cycle
  | .reg _ => []
  | .m => [.memRead]

/-- The data write of an operand R/M: none for a register. -/
def writeCycles : Operand8 → List Cycle
  | .reg _ => []
  | .m => [.memWrite]

/-- The machine cycles of an instruction, in order (R287). `taken` says whether the condition of a conditional
jump, call or return holds; it does not matter for the others. -/
def cyclesOf (i : Instr) (taken : Bool) : List Cycle :=
  match i with
  | .mov dst src => .fetch4 :: (readCycles src ++ writeCycles dst)
  | .mvi dst _ => .fetch4 :: .memRead :: writeCycles dst
  | .lxi _ _ => [.fetch4, .memRead, .memRead]
  | .lda _ => [.fetch4, .memRead, .memRead, .memRead]
  | .sta _ => [.fetch4, .memRead, .memRead, .memWrite]
  | .lhld _ => [.fetch4, .memRead, .memRead, .memRead, .memRead]
  | .shld _ => [.fetch4, .memRead, .memRead, .memWrite, .memWrite]
  | .ldax _ => [.fetch4, .memRead]
  | .stax _ => [.fetch4, .memWrite]
  | .add src | .adc src | .sub src | .sbb src | .ana src | .ora src | .xra src | .cmp src => .fetch4 :: readCycles src
  | .adi _ | .aci _ | .sui _ | .sbi _ | .ani _ | .ori _ | .xri _ | .cpi _ => [.fetch4, .memRead]
  | .inr dst | .dcr dst => .fetch4 :: (readCycles dst ++ writeCycles dst)
  | .inx _ | .dcx _ | .pchl | .sphl => [.fetch6]
  | .dad _ => [.fetch4, .busIdle, .busIdle]
  | .xchg | .daa | .cma | .cmc | .stc | .rlc | .ral | .rrc | .rar | .nop | .ei | .di | .rim | .sim => [.fetch4]
  | .jmp _ => [.fetch4, .memRead, .memRead]
  | .call _ => [.fetch6, .memRead, .memRead, .memWrite, .memWrite]
  | .ret | .pop _ => [.fetch4, .memRead, .memRead]
  | .xthl => [.fetch4, .memRead, .memRead, .memWrite, .memWrite]
  | .jnz _ | .jz _ | .jnc _ | .jc _ | .jpo _ | .jpe _ | .jp _ | .jm _ =>
    if taken then [.fetch4, .memRead, .memRead] else [.fetch4, .memRead]
  | .cnz _ | .cz _ | .cnc _ | .cc _ | .cpo _ | .cpe _ | .cp _ | .cm _ =>
    if taken then [.fetch6, .memRead, .memRead, .memWrite, .memWrite] else [.fetch6, .memRead]
  | .rnz | .rz | .rnc | .rc | .rpo | .rpe | .rp | .rm =>
    if taken then [.fetch6, .memRead, .memRead] else [.fetch6]
  | .hlt => [.fetch4, .haltWait]
  | .push _ | .rst _ => [.fetch6, .memWrite, .memWrite]
  | .inp _ => [.fetch4, .memRead, .ioRead]
  | .out _ => [.fetch4, .memRead, .ioWrite]

/-- The T-states of an instruction: the sum over its machine cycles (R286). -/
def tStatesOf (i : Instr) (taken : Bool) : Nat := ((cyclesOf i taken).map Cycle.tStates).sum

/-- The T-states of a path: the instructions executed, each with whether its condition held (R289). -/
def pathTStates (path : List (Instr × Bool)) : Nat := (path.map fun p => tStatesOf p.1 p.2).sum

/-- The instructions that `n + 1` passes of a delay loop execute: the body and the conditional jump each time, the
jump taken but in the last pass (R289). -/
def loopPath (body : List (Instr × Bool)) (jump : Instr) : Nat → List (Instr × Bool)
  | 0 => body ++ [(jump, false)]
  | n + 1 => body ++ (jump, true) :: loopPath body jump n

end Sys2Proof.Machine
end

