-- ==== Sys2Proof/Safety.lean ====
section
/-! DEFINITION. The terms in which claims speak of the machine: the invariant, what a cell holds, which
instructions leave which state alone, and the arithmetic of the spec restated over numbers. -/
namespace Sys2Proof.Machine

/-- What every step keeps: the memory in its canonical form, and no shadow of an EI unless `EI_DELAY` says so
("Under the default `EI_DELAY = none` there is no such bit", `70_reset_and_hazards.md` R285). -/
def State.Inv (s : State) : Prop :=
  Memory.wf s.mem = true ∧ (s.eiShadow = true → s.params.eiDelay = EiDelay.oneInstruction)

/-- A memory cell (`ram` or `rom`) answers at `addr`, and it holds `v`. -/
def State.Holds (s : State) (addr : Word) (v : Byte) : Prop :=
  (regionOf s.params addr = Region.ram ∨ regionOf s.params addr = Region.rom) ∧
    Memory.get? s.mem addr.toNat = some v

/-- Memory cells hold the bytes of a list from `addr` up, modulo 2^16. -/
def State.HoldsBytes (s : State) : Word → List Byte → Prop
  | _, [] => True
  | addr, v :: vs => s.Holds addr v ∧ s.HoldsBytes (addr + 1#16) vs

/-- The step that starts in `s` executes an instruction: no reset, no acceptable interrupt, not halted. -/
def State.Executes (s : State) : Prop :=
  s.sample.now.reset = false ∧ s.sample.acceptable = none ∧ s.halted = false

/-- Every byte of memory outside the listed addresses reads in `t` as in `s`. -/
def MemoryKeptBut (addrs : List Word) (s t : State) : Prop :=
  ∀ x : Word, x ∉ addrs → Memory.get? t.mem x.toNat = Memory.get? s.mem x.toNat

/-- The request of a source is acceptable at this boundary, taken by itself (`60_exceptions.md` R252). -/
def State.Requests (s : State) (src : Source) : Prop :=
  match src with
  | .trap => s.now.trap = true
  | .rst75 => s.r75 = true ∧ s.m75 = false ∧ s.enabled = true
  | .rst65 => s.now.l65 = true ∧ s.m65 = false ∧ s.enabled = true
  | .rst55 => s.now.l55 = true ∧ s.m55 = false ∧ s.enabled = true
  | .intr => s.now.intr = true ∧ s.enabled = true

/-- The order of priority, the first accepted first (`60_exceptions.md` R254). -/
def Source.rank : Source → Nat
  | .trap => 0
  | .rst75 => 1
  | .rst65 => 2
  | .rst55 => 3
  | .intr => 4

/-- S, Z and P reflect the result (`00_scope.md` R9): bit 7, zero, an even number of 1 bits. -/
def Reflects (r : Byte) (f : Flags) : Prop :=
  f.s = r.getLsbD 7 ∧ (f.z = true ↔ r = 0#8) ∧
    (f.p = true ↔ ((List.range 8).filter fun k => r.getLsbD k).length % 2 = 0)

/-- `add8(a, b, cin)` over numbers (`41_arithmetic.md` R130). -/
def IsSum (a b : Byte) (cin : Bool) (r : Byte) (f : Flags) : Prop :=
  r.toNat = (a.toNat + b.toNat + cin.toNat) % 256 ∧
    (f.cy = true ↔ 256 ≤ a.toNat + b.toNat + cin.toNat) ∧
    (f.ac = true ↔ 16 ≤ a.toNat % 16 + b.toNat % 16 + cin.toNat) ∧ Reflects r f

/-- `sub8(a, b, bin)` over numbers (`41_arithmetic.md` R131), AC by the machine's `AC_SUB`: under the default it is 1
exactly when no borrow from bit 4 was needed, under `borrow` exactly when one was. -/
def IsDifference (rule : AcSubRule) (a b : Byte) (bin : Bool) (r : Byte) (f : Flags) : Prop :=
  (r.toNat + b.toNat + bin.toNat) % 256 = a.toNat ∧
    (f.cy = true ↔ a.toNat < b.toNat + bin.toNat) ∧
    (rule = AcSubRule.adderCarry → (f.ac = true ↔ b.toNat % 16 + bin.toNat ≤ a.toNat % 16)) ∧
    (rule = AcSubRule.borrow → (f.ac = true ↔ a.toNat % 16 < b.toNat % 16 + bin.toNat)) ∧ Reflects r f

/-- POP PSW is the one POP that writes the flags (`45_stack_io_machine.md` R233). -/
def popKeepsFlags : StackPair → Bool
  | .bc | .de | .hl => true
  | .psw => false

/-- The instructions in the rows of `10_state.md` R28 that write no flag. -/
def keepsFlags : Instr → Bool
  | .mov _ _ | .mvi _ _ | .lxi _ _ | .lda _ | .sta _ | .lhld _ | .shld _ | .ldax _ | .stax _ | .xchg | .inx _
  | .dcx _ | .cma | .jmp _ | .pchl | .call _ | .ret | .xthl | .jnz _ | .jz _ | .jnc _ | .jc _ | .jpo _
  | .jpe _ | .jp _ | .jm _ | .cnz _ | .cz _ | .cnc _ | .cc _ | .cpo _ | .cpe _ | .cp _ | .cm _ | .rnz | .rz
  | .rnc | .rc | .rpo | .rpe | .rp | .rm | .nop | .hlt | .push _ | .rst _ | .sphl | .inp _ | .out _ | .ei
  | .di | .rim | .sim => true
  | .pop rp => popKeepsFlags rp
  | .dad _ | .cmc | .stc | .rlc | .ral | .rrc | .rar | .add _ | .adc _ | .adi _ | .aci _ | .sub _ | .sbb _
  | .sui _ | .sbi _ | .inr _ | .dcr _ | .daa | .ana _ | .ani _ | .ora _ | .ori _ | .xra _ | .xri _ | .cmp _
  | .cpi _ => false

/-- The instructions in the rows of `10_state.md` R28 that write CY and no other flag. -/
def writesCarryOnly : Instr → Bool
  | .dad _ | .cmc | .stc | .rlc | .ral | .rrc | .rar => true
  | .mov _ _ | .mvi _ _ | .lxi _ _ | .lda _ | .sta _ | .lhld _ | .shld _ | .ldax _ | .stax _ | .xchg | .add _
  | .adc _ | .aci _ | .adi _ | .sbb _ | .sub _ | .sbi _ | .sui _ | .inr _ | .dcr _ | .inx _ | .dcx _ | .daa
  | .ana _ | .ani _ | .ora _ | .ori _ | .xra _ | .xri _ | .cma | .cmp _ | .cpi _ | .jmp _ | .pchl | .call _
  | .ret | .xthl | .jnz _ | .jz _ | .jnc _ | .jc _ | .jpo _ | .jpe _ | .jp _ | .jm _ | .cnz _ | .cz _
  | .cnc _ | .cc _ | .cpo _ | .cpe _ | .cp _ | .cm _ | .rnz | .rz | .rnc | .rc | .rpo | .rpe | .rp | .rm
  | .nop | .hlt | .push _ | .pop _ | .rst _ | .sphl | .inp _ | .out _ | .ei | .di | .rim | .sim => false

/-- The address of the operand M, `HL`; a register operand has none. -/
def operandCells (s : State) : Operand8 → List Word
  | .reg _ => []
  | .m => [s.hl]

/-- The two stack cells a push stores to, high-order byte first (`20_memory.md` R54). -/
def State.pushCells (s : State) : List Word := [s.sp - 1#16, s.sp - 2#16]

/-- The forms that store to memory (`40_data_transfer.md`, the table of effective addresses): the addresses an
instruction stores to, computed from the state before it. A conditional call stores only when it is taken. -/
def storedTo (i : Instr) (s : State) : List Word :=
  match i with
  | .mov dst _ | .mvi dst _ | .inr dst | .dcr dst => operandCells s dst
  | .sta a16 => [a16]
  | .shld a16 => [a16, a16 + 1#16]
  | .stax rp => [s.pointer rp]
  | .push _ | .call _ | .rst _ => s.pushCells
  | .cnz _ => if s.flags.z then [] else s.pushCells
  | .cz _ => if s.flags.z then s.pushCells else []
  | .cnc _ => if s.flags.cy then [] else s.pushCells
  | .cc _ => if s.flags.cy then s.pushCells else []
  | .cpo _ => if s.flags.p then [] else s.pushCells
  | .cpe _ => if s.flags.p then s.pushCells else []
  | .cp _ => if s.flags.s then [] else s.pushCells
  | .cm _ => if s.flags.s then s.pushCells else []
  | .xthl => [s.sp, s.sp + 1#16]
  | .lxi _ _ | .lda _ | .lhld _ | .ldax _ | .xchg | .add _ | .adc _ | .aci _ | .adi _ | .sbb _ | .sub _
  | .sbi _ | .sui _ | .inx _ | .dcx _ | .daa | .dad _ | .ana _ | .ani _ | .ora _ | .ori _ | .xra _ | .xri _
  | .cma | .cmp _ | .cpi _ | .cmc | .stc | .rlc | .ral | .rrc | .rar | .jmp _ | .pchl | .ret | .jnz _ | .jz _
  | .jnc _ | .jc _ | .jpo _ | .jpe _ | .jp _ | .jm _ | .rnz | .rz | .rnc | .rc | .rpo | .rpe | .rp | .rm
  | .nop | .hlt | .pop _ | .sphl | .inp _ | .out _ | .ei | .di | .rim | .sim => []

/-- The register a destination R/M names; M is none. -/
def operandRegs : Operand8 → List Reg
  | .reg r => [r]
  | .m => []

/-- The registers of a pair, SP not among them. -/
def pairRegs : Pair → List Reg
  | .bc => [.b, .c]
  | .de => [.d, .e]
  | .hl => [.h, .l]
  | .sp => []

/-- The registers POP writes. -/
def poppedRegs : StackPair → List Reg
  | .bc => [.b, .c]
  | .de => [.d, .e]
  | .hl => [.h, .l]
  | .psw => [.a]

/-- The registers (A to L) an instruction may write (`10_state.md` R39). -/
def writtenRegs : Instr → List Reg
  | .mov dst _ | .mvi dst _ | .inr dst | .dcr dst => operandRegs dst
  | .lxi rp _ | .inx rp | .dcx rp => pairRegs rp
  | .pop rp => poppedRegs rp
  | .lhld _ | .xthl | .dad _ => [.h, .l]
  | .xchg => [.d, .e, .h, .l]
  | .lda _ | .ldax _ | .inp _ | .rim | .daa | .cma | .rlc | .ral | .rrc | .rar | .add _ | .adc _ | .aci _
  | .adi _ | .sbb _ | .sub _ | .sbi _ | .sui _ | .ana _ | .ani _ | .ora _ | .ori _ | .xra _ | .xri _ => [.a]
  | .sta _ | .shld _ | .stax _ | .cmp _ | .cpi _ | .cmc | .stc | .jmp _ | .pchl | .call _ | .ret | .jnz _
  | .jz _ | .jnc _ | .jc _ | .jpo _ | .jpe _ | .jp _ | .jm _ | .cnz _ | .cz _ | .cnc _ | .cc _ | .cpo _
  | .cpe _ | .cp _ | .cm _ | .rnz | .rz | .rnc | .rc | .rpo | .rpe | .rp | .rm | .nop | .hlt | .push _
  | .rst _ | .sphl | .out _ | .ei | .di | .sim => []

/-- SP, the fourth of the pairs (`30_encoding.md` R85). -/
def pairIsSp : Pair → Bool
  | .bc | .de | .hl => false
  | .sp => true

/-- The instructions that write SP (`10_state.md` R24, R39); the conditional ones only when taken. -/
def writesSp : Instr → Bool
  | .lxi rp _ | .inx rp | .dcx rp => pairIsSp rp
  | .sphl | .push _ | .pop _ | .call _ | .ret | .rst _ | .cnz _ | .cz _ | .cnc _ | .cc _ | .cpo _ | .cpe _
  | .cp _ | .cm _ | .rnz | .rz | .rnc | .rc | .rpo | .rpe | .rp | .rm => true
  | .mov _ _ | .mvi _ _ | .lda _ | .sta _ | .lhld _ | .shld _ | .ldax _ | .stax _ | .xchg | .add _ | .adc _
  | .aci _ | .adi _ | .sbb _ | .sub _ | .sbi _ | .sui _ | .inr _ | .dcr _ | .daa | .dad _ | .ana _ | .ani _
  | .ora _ | .ori _ | .xra _ | .xri _ | .cma | .cmp _ | .cpi _ | .cmc | .stc | .rlc | .ral | .rrc | .rar
  | .jmp _ | .pchl | .xthl | .jnz _ | .jz _ | .jnc _ | .jc _ | .jpo _ | .jpe _ | .jp _ | .jm _ | .nop | .hlt
  | .inp _ | .out _ | .ei | .di | .rim | .sim => false

/-- The instructions that may end with `pc` elsewhere than at `next` (`10_state.md` R25). -/
def writesPc : Instr → Bool
  | .jmp _ | .pchl | .call _ | .ret | .rst _ | .hlt | .jnz _ | .jz _ | .jnc _ | .jc _ | .jpo _ | .jpe _
  | .jp _ | .jm _ | .cnz _ | .cz _ | .cnc _ | .cc _ | .cpo _ | .cpe _ | .cp _ | .cm _ | .rnz | .rz | .rnc
  | .rc | .rpo | .rpe | .rp | .rm => true
  | .mov _ _ | .mvi _ _ | .lxi _ _ | .lda _ | .sta _ | .lhld _ | .shld _ | .ldax _ | .stax _ | .xchg | .add _
  | .adc _ | .aci _ | .adi _ | .sbb _ | .sub _ | .sbi _ | .sui _ | .inr _ | .dcr _ | .inx _ | .dcx _ | .daa
  | .dad _ | .ana _ | .ani _ | .ora _ | .ori _ | .xra _ | .xri _ | .cma | .cmp _ | .cpi _ | .cmc | .stc
  | .rlc | .ral | .rrc | .rar | .xthl | .nop | .push _ | .pop _ | .sphl | .inp _ | .out _ | .ei | .di | .rim
  | .sim => false

/-- The ten first bytes that belong to no instruction (`30_encoding.md` R89). -/
def undefinedOpcodes : List Byte :=
  [0x08#8, 0x10#8, 0x18#8, 0x28#8, 0x38#8, 0xCB#8, 0xD9#8, 0xDD#8, 0xED#8, 0xFD#8]

end Sys2Proof.Machine
end

