-- ==== Sys2Proof/Certificates/Slice0/Obligations.lean ====
section
/-! DEFINITION. The statements for the provers. Each docstring names the rule of spec/ it formalises. -/

open Sys2Proof Sys2Proof.Machine

/-- Decoding the encoding of any well-formed instruction gives it back. Decode and encode agree on every well-formed instruction (R82, R83, R88; MOV M,M is excluded by R95). -/
def Obligations.DecodeOfEncodeGivesBackInstruction : Prop :=
  ∀ (i : Instr) (rest : List Byte), i.wf = true → decode (encode i ++ rest) = .ok (i, rest)

/-- Every byte string that decodes is the encoding of what it decodes to. Each word has one meaning (R81, R88, R90). -/
def Obligations.EncodeOfDecodeGivesBackBytes : Prop :=
  ∀ (bytes : List Byte) (i : Instr) (rest : List Byte),
    decode bytes = .ok (i, rest) → i.wf = true ∧ encode i ++ rest = bytes

/-- Exactly the ten listed first bytes are undefined, and a step that reaches one is refused. R89: the ten undefined first bytes, every operand value legal for the others, and the no-ops among the defined ones. -/
def Obligations.TenOpcodesAreUndefinedAndRefused : Prop :=
  (∀ op b2 b3 : Byte, decodeBytes op b2 b3 = none ↔ op ∈ undefinedOpcodes) ∧
  (∀ s : State, s.Executes → s.sample.fetch.1.1 ∈ undefinedOpcodes →
    step s = .refused (.undefinedOpcode s.sample.fetch.1.1)) ∧
  (∀ s : State, exec .nop s = .next { s with pc := s.pc + 1#16 }) ∧
  (∀ (r : Reg) (s : State), exec (.mov (.reg r) (.reg r)) s = .next { s with pc := s.pc + 1#16 })

/-- The first byte alone fixes the length, 1 to 3 bytes. R80, R81 (derived there). -/
def Obligations.FirstByteAloneFixesLength : Prop :=
  ∀ (op b2 b3 : Byte) (i : Instr), decodeBytes op b2 b3 = some i →
    i.length = opcodeLength op ∧ (encode i).length = i.length ∧ 1 ≤ i.length ∧ i.length ≤ 3

/-- A few words written out from the encoding tables decode to the instructions they spell. Words of the spec's own examples, one or more of each family. -/
def Obligations.SampleBytesDecodeAsSpelled : Prop :=
  decode [0x21#8, 0x50#8, 0x20#8] = .ok (.lxi .hl 0x2050#16, []) ∧
  decode [0x7E#8] = .ok (.mov (.reg .a) .m, []) ∧
  decode [0x76#8] = .ok (.hlt, []) ∧
  decode [0x1A#8] = .ok (.ldax .de, []) ∧
  decode [0xC6#8, 0x42#8] = .ok (.adi 0x42#8, []) ∧
  decode [0xC2#8, 0x50#8, 0x20#8] = .ok (.jnz 0x2050#16, []) ∧
  decode [0xEF#8] = .ok (.rst 5#3, []) ∧
  decode [0xF5#8] = .ok (.push .psw, []) ∧
  decode [0x39#8] = .ok (.dad .sp, []) ∧
  decode [0xD3#8, 0x01#8] = .ok (.out 0x01#8, []) ∧
  decode [0x30#8] = .ok (.sim, [])

/-- A step that executes runs exec on the instruction the fetched bytes spell. The step around exec: sample the boundary, fetch, clear the shadow of an earlier EI, execute (R94, R255, R285). -/
def Obligations.StepRunsTheFetchedInstruction : Prop :=
  ∀ (s : State) (i : Instr), s.Executes →
    decodeBytes s.sample.fetch.1.1 s.sample.fetch.1.2.1 s.sample.fetch.1.2.2 = some i →
    step s = exec i { s.sample.fetch.2 with eiShadow := false }

/-- An instruction whose bytes lie in memory at pc is what the step executes. R94 and R82 together: the bytes at pc, in ascending order and wrapping at the top, decide the instruction. -/
def Obligations.InstructionHeldInMemoryRuns : Prop :=
  ∀ (s : State) (i : Instr), s.Executes → i.wf = true → s.HoldsBytes s.pc (encode i) →
    step s = exec i { s.sample with eiShadow := false }

/-- The order of a boundary: reset, then an acceptable interrupt, then the idle halt state. R255 and R271. That all lines are low after the last scheduled boundary is the model's choice (log 4). -/
def Obligations.StepAcceptsIdlesOrResets : Prop :=
  (∀ (s : State) (b : Boundary) (rest : List Boundary), s.env = b :: rest →
    s.sample = { s with now := b, env := rest, r75 := s.r75 || b.edge75 }) ∧
  (∀ s : State, s.env = [] → s.sample = { s with now := Boundary.quiet }) ∧
  (∀ s : State, s.sample.now.reset = true → step s = .next s.sample.systemReset) ∧
  (∀ (s : State) (src : Source), s.sample.now.reset = false → s.sample.acceptable = some src →
    step s = s.sample.takeInterrupt src) ∧
  (∀ s : State, s.sample.now.reset = false → s.sample.acceptable = none → s.halted = true →
    step s = .next s.sample)

/-- The accepted interrupt is the first in priority among those enabled and unmasked. R252 (the condition of each source, as State.Requests) and R254 (the order, as Source.rank). -/
def Obligations.AcceptedSourceIsEnabledAndFirst : Prop :=
  (∀ (s : State) (src : Source), s.acceptable = some src ↔
    (s.Requests src ∧ ∀ other : Source, s.Requests other → src.rank ≤ other.rank)) ∧
  (∀ s : State, s.acceptable = none ↔ ∀ src : Source, ¬ s.Requests src) ∧
  (∀ s : State, s.enabled = true ↔
    (s.ie = true ∧ (s.params.eiDelay = EiDelay.none ∨ s.eiShadow = false)))

/-- Accepting TRAP, RST 7.5, 6.5 or 5.5 pushes pc and goes to the fixed entry address. The entry addresses are R257, the push, IE, the halt state and R75 are R256. The clause on trapSinceRim is the model's choice: a note for the RIM of R36 (log 11, DESIGN CHOICE). -/
def Obligations.VectoredInterruptEntry : Prop :=
  (Source.trap.entry = some 0x0024#16 ∧ Source.rst55.entry = some 0x002C#16 ∧ Source.rst65.entry = some 0x0034#16 ∧
    Source.rst75.entry = some 0x003C#16 ∧ Source.intr.entry = none) ∧
  (∀ (s : State) (src : Source) (entry : Word), src.entry = some entry →
    s.takeInterrupt src = .next
      { (s.memWrite (s.sp - 1#16) (hiByte s.pc)).memWrite (s.sp - 2#16) (loByte s.pc) with
        sp := s.sp - 2#16
        pc := entry
        halted := false
        ie := false
        r75 := if src = Source.rst75 then false else s.r75
        trapSinceRim := if src = Source.trap then true else s.trapSinceRim })

/-- INTR executes the RST n or CALL its device supplies, pushing pc unadvanced, and refuses any other opcode. R258, with the bytes of INTA_OPCODE in the boundary input; IE and the halt state are R256. The last clause is the model's choice: a boundary that leaves the bytes open takes a free RST n (log 13, DESIGN CHOICE), which advances the counter of free values `draws` (log 3, DESIGN CHOICE). -/
def Obligations.IntrExecutesSuppliedRestartOrCall : Prop :=
  ∀ s : State,
    (∀ (n : BitVec 3) (lo hi : Byte), s.now.inta = .bytes (0b11#2 ++ n ++ 0b111#3) lo hi →
      s.takeInterrupt .intr = .next
        { (s.memWrite (s.sp - 1#16) (hiByte s.pc)).memWrite (s.sp - 2#16) (loByte s.pc) with
          sp := s.sp - 2#16, pc := BitVec.ofNat 16 (8 * n.toNat), halted := false, ie := false }) ∧
    (∀ lo hi : Byte, s.now.inta = .bytes 0xCD#8 lo hi → s.takeInterrupt .intr = .next
        { (s.memWrite (s.sp - 1#16) (hiByte s.pc)).memWrite (s.sp - 2#16) (loByte s.pc) with
          sp := s.sp - 2#16, pc := joinBytes hi lo, halted := false, ie := false }) ∧
    (∀ op lo hi : Byte, s.now.inta = .bytes op lo hi → op ≠ 0xCD#8 →
      (∀ n : BitVec 3, op ≠ 0b11#2 ++ n ++ 0b111#3) → s.takeInterrupt .intr = .refused (.intaOpcode op)) ∧
    (s.now.inta = .anyRestart → ∃ n : BitVec 3, s.takeInterrupt .intr = .next
      { (s.memWrite (s.sp - 1#16) (hiByte s.pc)).memWrite (s.sp - 2#16) (loByte s.pc) with
        sp := s.sp - 2#16, pc := BitVec.ofNat 16 (8 * n.toNat), halted := false, ie := false, draws := s.draws + 1 })

/-- TRAP is accepted at every boundary where it is requested, whatever IE, the masks and the halt state. R259: "acceptable at every boundary", with vector 0x0024. -/
def Obligations.TrapIsTakenWhateverIsMasked : Prop :=
  ∀ s : State, s.sample.now.reset = false → s.sample.now.trap = true →
    ∃ t : State, step s = .next t ∧ t.pc = 0x0024#16 ∧ t.sp = s.sp - 2#16 ∧ t.ie = false ∧ t.halted = false ∧
      t.m75 = s.m75 ∧ t.m65 = s.m65 ∧ t.m55 = s.m55 ∧ t.r75 = s.sample.r75 ∧ t.flags = s.flags ∧
      (∀ r : Reg, t.getReg r = s.getReg r) ∧
      t.mem = ((s.memWrite (s.sp - 1#16) (hiByte s.pc)).memWrite (s.sp - 2#16) (loByte s.pc)).mem

/-- RET after an interrupt entry restores pc and SP and leaves IE cleared. R260: RET pops the saved pc and restores nothing else; R258 for INTR. A boundary that leaves the device open takes a free RST n (log 13, DESIGN CHOICE). -/
def Obligations.ReturnEndsInterruptRoutine : Prop :=
  ∀ (s : State) (src : Source),
    (src ≠ Source.intr ∨ s.now.inta = .anyRestart ∨
      (∃ (n : BitVec 3) (lo hi : Byte), s.now.inta = .bytes (0b11#2 ++ n ++ 0b111#3) lo hi) ∨
      (∃ lo hi : Byte, s.now.inta = .bytes 0xCD#8 lo hi)) →
    regionOf s.params (s.sp - 1#16) = Region.ram → regionOf s.params (s.sp - 2#16) = Region.ram →
    ∃ t : State, s.takeInterrupt src = .next t ∧ t.ie = false ∧
      exec .ret t = .next { t with pc := s.pc, sp := s.sp }

/-- A latched RST 7.5 request is lost only to reset, its own acceptance, or SIM with bit 4 set. R32: the latch "stays set until" one of three events; R253: an edge sets it whatever the masks. -/
def Obligations.Rst75RequestStaysUntilCleared : Prop :=
  ∀ s t : State, step s = .next t → (s.r75 = true ∨ (s.env.headD Boundary.quiet).edge75 = true) → t.r75 = false →
    s.sample.now.reset = true ∨ s.sample.acceptable = some Source.rst75 ∨
    (s.Executes ∧ s.a.getLsbD 4 = true ∧
      decodeBytes s.sample.fetch.1.1 s.sample.fetch.1.2.1 s.sample.fetch.1.2.2 = some .sim)

/-- A reset at a boundary gives the reset values and keeps the memory contents (the latter by log 14). The values are those of R281 and R40. The clause t.mem = s.mem is the model's choice (log 14, DESIGN CHOICE): R280 keeps the contents of ram and rom, while R281, R40 and vector I14 give RAM no value. What A to L, the flags and SP hold afterwards is the model's choice too (log 1, log 14) and is not stated. -/
def Obligations.SystemResetAtABoundary : Prop :=
  ∀ s : State, s.sample.now.reset = true →
    ∃ t : State, step s = .next t ∧ t.pc = 0#16 ∧ t.ie = false ∧ t.m75 = true ∧ t.m65 = true ∧ t.m55 = true ∧
      t.r75 = false ∧ t.sod = false ∧ t.halted = false ∧ t.eiShadow = false ∧ t.mem = s.mem ∧ t.params = s.params

/-- The reset state has the stated values and meets the invariant. R40, with the defaults of R5. That memory with no value lists nothing is the model's form (log 2). -/
def Obligations.ResetStateMeetsTheInvariant : Prop :=
  State.reset.pc = 0#16 ∧ State.reset.ie = false ∧ State.reset.m75 = true ∧ State.reset.m65 = true ∧
    State.reset.m55 = true ∧ State.reset.r75 = false ∧ State.reset.sod = false ∧ State.reset.halted = false ∧
    State.reset.mem = [] ∧ State.reset.params.hltPc = HltPc.stay ∧ State.reset.params.eiDelay = EiDelay.none ∧
    State.reset.params.acSub = AcSubRule.adderCarry ∧ (∀ a : Word, regionOf State.reset.params a = Region.ram) ∧
    State.reset.Inv

/-- Every step keeps the memory canonical and the EI shadow within its parameter. The memory space of R50 as data, and R285: "Under the default EI_DELAY = none there is no such bit". -/
def Obligations.EveryStepKeepsTheInvariant : Prop :=
  ∀ s t : State, s.Inv → step s = .next t → t.Inv

/-- No step and no instruction faults, and every instruction completes in every state. R250: there are no synchronous exceptions. -/
def Obligations.NothingFaultsAndEveryInstructionCompletes : Prop :=
  (∀ (s : State) (f : Fault), step s ≠ .fault f) ∧
  (∀ (i : Instr) (s : State), ∃ t : State, exec i s = .next t)

/-- A step is refused only at an undefined opcode or an INTR opcode that is neither RST n nor CALL. R290 (b): the two ways a run ends refused. -/
def Obligations.StepRefusesOnlyWhatTheSpecRefuses : Prop :=
  ∀ (s : State) (r : Refusal), step s = .refused r →
    (s.Executes ∧ s.sample.fetch.1.1 ∈ undefinedOpcodes ∧ r = .undefinedOpcode s.sample.fetch.1.1) ∨
    (s.sample.acceptable = some Source.intr ∧ ∃ op lo hi : Byte, s.sample.now.inta = .bytes op lo hi ∧ op ≠ 0xCD#8 ∧
      (∀ n : BitVec 3, op ≠ 0b11#2 ++ n ++ 0b111#3) ∧ r = .intaOpcode op)

/-- No step changes the machine parameters, and the record of outputs only grows. R5, R38: the parameters are fixed; R67: accesses are recorded in order. -/
def Obligations.StepKeepsParametersAndRecord : Prop :=
  ∀ s t : State, step s = .next t →
    t.params = s.params ∧ t.env = s.env.tail ∧ s.log <+: t.log

/-- IE, the masks, R75, SOD, the halt state and SP change only by the instructions listed for them. R39, the writers of the control state. -/
def Obligations.ControlStateHasOnlyItsWriters : Prop :=
  ∀ (i : Instr) (s t : State), exec i s = .next t →
    (t.ie ≠ s.ie → i = .ei ∨ i = .di) ∧
    ((t.m75, t.m65, t.m55, t.r75, t.sod) ≠ (s.m75, s.m65, s.m55, s.r75, s.sod) → i = .sim) ∧
    (t.halted ≠ s.halted → i = .hlt) ∧
    (t.sp ≠ s.sp → writesSp i = true) ∧
    t.params = s.params ∧ t.env = s.env ∧ t.now = s.now

/-- The instructions that write no flag, only CY, or all but CY do exactly that. R28, by the rows keepsFlags and writesCarryOnly list. -/
def Obligations.FlagsChangeOnlyAsListed : Prop :=
  ∀ (i : Instr) (s t : State), exec i s = .next t →
    (keepsFlags i = true → t.flags = s.flags) ∧
    (writesCarryOnly i = true → t.flags = { s.flags with cy := t.flags.cy }) ∧
    ((∃ o : Operand8, i = .inr o ∨ i = .dcr o) → t.flags.cy = s.flags.cy)

/-- Every byte of memory outside the addresses an instruction stores to reads as before. The table of effective addresses of 40_data_transfer.md; R59: a write has no effect but to change its cell. -/
def Obligations.MemoryChangesOnlyWhereStored : Prop :=
  ∀ (i : Instr) (s t : State), exec i s = .next t → MemoryKeptBut (storedTo i s) s t

/-- Registers outside an instruction's destinations are unchanged, and pc goes to next unless it is a transfer or HLT. R39 (writtenRegs) and R25: "Every instruction that is not a taken control transfer and not HLT ends with pc <- next". -/
def Obligations.RegistersAndPcChangeOnlyAsListed : Prop :=
  ∀ (i : Instr) (s t : State), exec i s = .next t →
    (∀ r : Reg, r ∉ writtenRegs i → t.getReg r = s.getReg r) ∧
    (writesPc i = false → t.pc = s.pc + BitVec.ofNat 16 i.length)

/-- Reads and writes of ram, rom, absent and device addresses (with the model's answers queue and free bytes). R66, R59. The last two clauses rest on the model's choices: log 2 (a cell without a value) and log 5 (the queue of answers). -/
def Obligations.MemoryAccessByRegion : Prop :=
  ∀ (s : State) (addr : Word) (v : Byte),
    (regionOf s.params addr = Region.ram →
      (s.memWrite addr v).memRead addr = (v, s.memWrite addr v) ∧
      (∀ x : Word, x ≠ addr → Memory.get? (s.memWrite addr v).mem x.toNat = Memory.get? s.mem x.toNat) ∧
      s.memWrite addr v = { s with mem := (s.memWrite addr v).mem }) ∧
    (∀ w : Byte, s.Holds addr w → s.memRead addr = (w, s)) ∧
    (regionOf s.params addr = Region.rom ∨ regionOf s.params addr = Region.absent → s.memWrite addr v = s) ∧
    (regionOf s.params addr = Region.absent → ∃ w : Byte, s.memRead addr = (w, { s with draws := s.draws + 1 })) ∧
    (regionOf s.params addr = Region.device →
      s.memWrite addr v = { s with log := s.log ++ [.deviceWrite addr v] } ∧
      ∃ (w : Byte) (answers : List Byte) (k : Nat), s.memRead addr =
        (w, { s with answers := answers, draws := k, log := s.log ++ [.deviceRead addr w] })) ∧
    (regionOf s.params addr = Region.device → ∀ (w : Byte) (rest : List Byte), s.answers = w :: rest →
      s.memRead addr = (w, { s with answers := rest, log := s.log ++ [.deviceRead addr w] })) ∧
    (regionOf s.params addr = Region.ram ∨ regionOf s.params addr = Region.rom →
      Memory.get? s.mem addr.toNat = none → ∃ w : Byte, s.memRead addr = (w, { s with draws := s.draws + 1 }))

/-- A push puts the high byte at SP-1 and the low byte at SP-2, and a pop gives the word back. R54, with the wrap of R57. -/
def Obligations.PushThenPopGivesBackTheWord : Prop :=
  (∀ (s : State) (v : Word), regionOf s.params (s.sp - 1#16) = Region.ram → regionOf s.params (s.sp - 2#16) = Region.ram →
    Memory.get? (s.push16 v).mem (s.sp - 1#16).toNat = some (hiByte v) ∧
    Memory.get? (s.push16 v).mem (s.sp - 2#16).toNat = some (loByte v) ∧
    MemoryKeptBut [s.sp - 1#16, s.sp - 2#16] s (s.push16 v) ∧
    s.push16 v = { s with mem := (s.push16 v).mem, sp := s.sp - 2#16 } ∧
    (s.push16 v).pop16 = (v, { s.push16 v with sp := s.sp })) ∧
  (∀ (s : State) (v : Word), s.push16 v =
    { (s.memWrite (s.sp - 1#16) (hiByte v)).memWrite (s.sp - 2#16) (loByte v) with sp := s.sp - 2#16 }) ∧
  (∀ s : State, s.pop16 = (joinBytes ((s.memRead s.sp).2.memRead (s.sp + 1#16)).1 (s.memRead s.sp).1,
    { ((s.memRead s.sp).2.memRead (s.sp + 1#16)).2 with sp := s.sp + 2#16 }))

/-- Register, pair and M operands read and write what they name and nothing else. R8 (rd8, wr8, rp), R20, R22, R23. -/
def Obligations.OperandsAreRegistersPairsAndMemory : Prop :=
  (∀ (r q : Reg) (v : Byte) (s : State), (s.setReg r v).getReg q = if q = r then v else s.getReg q) ∧
  (∀ s : State, s.bc = joinBytes s.b s.c ∧ s.de = joinBytes s.d s.e ∧ s.hl = joinBytes s.h s.l) ∧
  (∀ s : State, s.getPair .bc = s.bc ∧ s.getPair .de = s.de ∧ s.getPair .hl = s.hl ∧ s.getPair .sp = s.sp) ∧
  (∀ (p q : Pair) (w : Word) (s : State), (s.setPair p w).getPair q = if q = p then w else s.getPair q) ∧
  (∀ (hi lo : Byte), hiByte (joinBytes hi lo) = hi ∧ loByte (joinBytes hi lo) = lo ∧
    (joinBytes hi lo).toNat = 256 * hi.toNat + lo.toNat) ∧
  (∀ (r : Reg) (v : Byte) (s : State), s.rd8 (.reg r) = (s.getReg r, s) ∧ s.wr8 (.reg r) v = s.setReg r v) ∧
  (∀ (v : Byte) (s : State), s.rd8 .m = s.memRead (joinBytes s.h s.l) ∧ s.wr8 .m v = s.memWrite (joinBytes s.h s.l) v)

/-- MOV copies the source operand to the destination; MVI stores its data byte. R110, R111. -/
def Obligations.MovAndMviCopy : Prop :=
  (∀ (dst src : Operand8) (s : State), (Instr.mov dst src).wf = true →
    encode (.mov dst src) = [0b01#2 ++ dst.code ++ src.code] ∧
    exec (.mov dst src) s = .next { (s.rd8 src).2.wr8 dst (s.rd8 src).1 with pc := s.pc + 1#16 }) ∧
  (∀ (q r : Reg) (s : State), ∃ t : State, exec (.mov (.reg q) (.reg r)) s = .next t ∧
    t = { s.setReg q (s.getReg r) with pc := s.pc + 1#16 } ∧ t.getReg q = s.getReg r) ∧
  (∀ (dst : Operand8) (v : Byte) (s : State),
    encode (.mvi dst v) = [0b00#2 ++ dst.code ++ 0b110#3, v] ∧
    exec (.mvi dst v) s = .next { s.wr8 dst v with pc := s.pc + 2#16 })

/-- LXI loads a pair with its 16-bit data, low-order byte first in the code. R112. -/
def Obligations.LxiLoadsPair : Prop :=
  ∀ (w : Word) (s : State),
    (∀ rp : Pair, encode (.lxi rp w) = [0b00#2 ++ rp.code ++ 0b0001#4, loByte w, hiByte w]) ∧
    exec (.lxi .bc w) s = .next { s with b := hiByte w, c := loByte w, pc := s.pc + 3#16 } ∧
    exec (.lxi .de w) s = .next { s with d := hiByte w, e := loByte w, pc := s.pc + 3#16 } ∧
    exec (.lxi .hl w) s = .next { s with h := hiByte w, l := loByte w, pc := s.pc + 3#16 } ∧
    exec (.lxi .sp w) s = .next { s with sp := w, pc := s.pc + 3#16 }

/-- LDA, LDAX, STA and STAX move A to and from memory, and a store is seen by a later read and fetch. R113, R114, R117, R118; the last clause is R65. -/
def Obligations.AccumulatorLoadsAndStores : Prop :=
  ∀ (a16 : Word) (s : State),
    encode (.lda a16) = [0x3A#8, loByte a16, hiByte a16] ∧ encode (.sta a16) = [0x32#8, loByte a16, hiByte a16] ∧
    encode (.ldax .bc) = [0x0A#8] ∧ encode (.ldax .de) = [0x1A#8] ∧
    encode (.stax .bc) = [0x02#8] ∧ encode (.stax .de) = [0x12#8] ∧
    exec (.lda a16) s = .next { (s.memRead a16).2 with a := (s.memRead a16).1, pc := s.pc + 3#16 } ∧
    exec (.ldax .bc) s = .next
      { (s.memRead (joinBytes s.b s.c)).2 with a := (s.memRead (joinBytes s.b s.c)).1, pc := s.pc + 1#16 } ∧
    exec (.ldax .de) s = .next
      { (s.memRead (joinBytes s.d s.e)).2 with a := (s.memRead (joinBytes s.d s.e)).1, pc := s.pc + 1#16 } ∧
    exec (.sta a16) s = .next { s.memWrite a16 s.a with pc := s.pc + 3#16 } ∧
    exec (.stax .bc) s = .next { s.memWrite (joinBytes s.b s.c) s.a with pc := s.pc + 1#16 } ∧
    exec (.stax .de) s = .next { s.memWrite (joinBytes s.d s.e) s.a with pc := s.pc + 1#16 } ∧
    (regionOf s.params a16 = Region.ram → ∃ t : State, exec (.sta a16) s = .next t ∧ t.memRead a16 = (s.a, t) ∧
      ({ t with pc := a16 } : State).fetch.1.1 = s.a)

/-- LHLD and SHLD move L at a16 and H at a16 + 1, low byte first, and SHLD then LHLD gives HL back. R115, R116. -/
def Obligations.HlLoadsAndStoresDirect : Prop :=
  (∀ (a16 : Word) (s : State),
    encode (.lhld a16) = [0x2A#8, loByte a16, hiByte a16] ∧ encode (.shld a16) = [0x22#8, loByte a16, hiByte a16] ∧
    exec (.lhld a16) s = .next { ((s.memRead a16).2.memRead (a16 + 1#16)).2 with
      l := (s.memRead a16).1, h := ((s.memRead a16).2.memRead (a16 + 1#16)).1, pc := s.pc + 3#16 } ∧
    exec (.shld a16) s = .next
      { (s.memWrite a16 s.l).memWrite (a16 + 1#16) s.h with pc := s.pc + 3#16 }) ∧
  (∀ (a16 : Word) (s : State), regionOf s.params a16 = Region.ram → regionOf s.params (a16 + 1#16) = Region.ram →
    ∃ t : State, exec (.shld a16) s = .next t ∧ exec (.lhld a16) t = .next { t with pc := t.pc + 3#16 })

/-- XCHG exchanges HL and DE and nothing else; twice, it restores both. R119. -/
def Obligations.XchgExchangesHlAndDe : Prop :=
  ∀ s : State, encode .xchg = [0b11101011#8] ∧
    exec .xchg s = .next { s with h := s.d, d := s.h, l := s.e, e := s.l, pc := s.pc + 1#16 } ∧
    ∃ t : State, exec .xchg s = .next t ∧ exec .xchg t = .next { s with pc := s.pc + 2#16 }

/-- ADD, ADC, ADI and ACI give the 8-bit sum with its carry, auxiliary carry, sign, zero and parity. R130, R132 to R135. IsSum says add8 over numbers. -/
def Obligations.AdditionsWriteSumAndFlags : Prop :=
  (∀ (src : Operand8) (s : State), ∃ (r : Byte) (f : Flags), encode (.add src) = [0b10000#5 ++ src.code] ∧
    IsSum s.a (s.rd8 src).1 false r f ∧
    exec (.add src) s = .next { (s.rd8 src).2 with a := r, flags := f, pc := s.pc + 1#16 }) ∧
  (∀ (src : Operand8) (s : State), ∃ (r : Byte) (f : Flags), encode (.adc src) = [0b10001#5 ++ src.code] ∧
    IsSum s.a (s.rd8 src).1 s.flags.cy r f ∧
    exec (.adc src) s = .next { (s.rd8 src).2 with a := r, flags := f, pc := s.pc + 1#16 }) ∧
  (∀ (d8 : Byte) (s : State), ∃ (r : Byte) (f : Flags), encode (.adi d8) = [0b11000110#8, d8] ∧
    IsSum s.a d8 false r f ∧ exec (.adi d8) s = .next { s with a := r, flags := f, pc := s.pc + 2#16 }) ∧
  (∀ (d8 : Byte) (s : State), ∃ (r : Byte) (f : Flags), encode (.aci d8) = [0b11001110#8, d8] ∧
    IsSum s.a d8 s.flags.cy r f ∧ exec (.aci d8) s = .next { s with a := r, flags := f, pc := s.pc + 2#16 })

/-- SUB, SBB, SUI and SBI give the 8-bit difference with borrow, auxiliary carry, sign, zero and parity. R131, R136 to R139. IsDifference says sub8 over numbers, for each setting of AC_SUB. -/
def Obligations.SubtractionsWriteDifferenceAndFlags : Prop :=
  (∀ (src : Operand8) (s : State), ∃ (r : Byte) (f : Flags), encode (.sub src) = [0b10010#5 ++ src.code] ∧
    IsDifference s.params.acSub s.a (s.rd8 src).1 false r f ∧
    exec (.sub src) s = .next { (s.rd8 src).2 with a := r, flags := f, pc := s.pc + 1#16 }) ∧
  (∀ (src : Operand8) (s : State), ∃ (r : Byte) (f : Flags), encode (.sbb src) = [0b10011#5 ++ src.code] ∧
    IsDifference s.params.acSub s.a (s.rd8 src).1 s.flags.cy r f ∧
    exec (.sbb src) s = .next { (s.rd8 src).2 with a := r, flags := f, pc := s.pc + 1#16 }) ∧
  (∀ (d8 : Byte) (s : State), ∃ (r : Byte) (f : Flags), encode (.sui d8) = [0b11010110#8, d8] ∧
    IsDifference s.params.acSub s.a d8 false r f ∧
    exec (.sui d8) s = .next { s with a := r, flags := f, pc := s.pc + 2#16 }) ∧
  (∀ (d8 : Byte) (s : State), ∃ (r : Byte) (f : Flags), encode (.sbi d8) = [0b11011110#8, d8] ∧
    IsDifference s.params.acSub s.a d8 s.flags.cy r f ∧
    exec (.sbi d8) s = .next { s with a := r, flags := f, pc := s.pc + 2#16 })

/-- CMP and CPI keep A and show the unsigned order in Carry and Zero. R168, R169. -/
def Obligations.ComparisonsSetCarryAndZeroByOrder : Prop :=
  (∀ (src : Operand8) (s : State), ∃ (r : Byte) (f : Flags), encode (.cmp src) = [0b10111#5 ++ src.code] ∧
    IsDifference s.params.acSub s.a (s.rd8 src).1 false r f ∧
    exec (.cmp src) s = .next { (s.rd8 src).2 with flags := f, pc := s.pc + 1#16 } ∧
    (s.a.toNat < (s.rd8 src).1.toNat → f.cy = true ∧ f.z = false) ∧
    (s.a = (s.rd8 src).1 → f.cy = false ∧ f.z = true) ∧
    ((s.rd8 src).1.toNat < s.a.toNat → f.cy = false ∧ f.z = false)) ∧
  (∀ (d8 : Byte) (s : State), ∃ (r : Byte) (f : Flags), encode (.cpi d8) = [0b11111110#8, d8] ∧
    IsDifference s.params.acSub s.a d8 false r f ∧
    exec (.cpi d8) s = .next { s with flags := f, pc := s.pc + 2#16 } ∧
    (s.a.toNat < d8.toNat → f.cy = true ∧ f.z = false) ∧
    (s.a = d8 → f.cy = false ∧ f.z = true) ∧
    (d8.toNat < s.a.toNat → f.cy = false ∧ f.z = false))

/-- INR and DCR change an operand by 1, write S, Z, AC and P and keep CY. R140, R141. -/
def Obligations.IncrementAndDecrementKeepCarry : Prop :=
  (∀ (dst : Operand8) (s : State), ∃ (r : Byte) (f : Flags), encode (.inr dst) = [0b00#2 ++ dst.code ++ 0b100#3] ∧
    IsSum (s.rd8 dst).1 1#8 false r f ∧
    exec (.inr dst) s = .next
      { ({ (s.rd8 dst).2 with flags := { f with cy := s.flags.cy } } : State).wr8 dst r with pc := s.pc + 1#16 }) ∧
  (∀ (dst : Operand8) (s : State), ∃ (r : Byte) (f : Flags), encode (.dcr dst) = [0b00#2 ++ dst.code ++ 0b101#3] ∧
    IsDifference s.params.acSub (s.rd8 dst).1 1#8 false r f ∧
    exec (.dcr dst) s = .next
      { ({ (s.rd8 dst).2 with flags := { f with cy := s.flags.cy } } : State).wr8 dst r with pc := s.pc + 1#16 })

/-- INX and DCX change a pair by 1 modulo 2^16 and touch no flag. R142, R143. -/
def Obligations.PairIncrementAndDecrement : Prop :=
  ∀ (rp : Pair) (s : State),
    encode (.inx rp) = [0b00#2 ++ rp.code ++ 0b0011#4] ∧ encode (.dcx rp) = [0b00#2 ++ rp.code ++ 0b1011#4] ∧
    (∃ w : Word, w.toNat = ((s.getPair rp).toNat + 1) % 65536 ∧
      exec (.inx rp) s = .next { s.setPair rp w with pc := s.pc + 1#16 }) ∧
    (∃ w : Word, w.toNat = ((s.getPair rp).toNat + 65535) % 65536 ∧
      exec (.dcx rp) s = .next { s.setPair rp w with pc := s.pc + 1#16 })

/-- DAD adds a pair to HL modulo 2^16 and writes only CY, the carry out of bit 15. R145. -/
def Obligations.DadAddsPairToHl : Prop :=
  ∀ (rp : Pair) (s : State), encode (.dad rp) = [0b00#2 ++ rp.code ++ 0b1001#4] ∧
    ∃ (w : Word) (cy : Bool), w.toNat = (s.hl.toNat + (s.getPair rp).toNat) % 65536 ∧
      (cy = true ↔ 65536 ≤ s.hl.toNat + (s.getPair rp).toNat) ∧
      exec (.dad rp) s = .next
        { s with h := hiByte w, l := loByte w, flags := { s.flags with cy := cy }, pc := s.pc + 1#16 }

/-- DAA equals the one-step decimal adjustment. R144: the sequential reading, "equivalent to the common one-step statement". -/
def Obligations.DaaEqualsOneStepAdjustment : Prop :=
  ∀ s : State, encode .daa = [0b00100111#8] ∧
    ∃ (low high : Bool) (r : Byte) (f : Flags),
      (low = true ↔ (9 < s.a.toNat % 16 ∨ s.flags.ac = true)) ∧
      (high = true ↔ (0x99 < s.a.toNat ∨ s.flags.cy = true)) ∧
      r.toNat = (s.a.toNat + 0x06 * low.toNat + 0x60 * high.toNat) % 256 ∧
      f.cy = high ∧ (f.ac = true ↔ (low = true ∧ 15 < s.a.toNat % 16 + 6)) ∧ Reflects r f ∧
      exec .daa s = .next { s with a := r, flags := f, pc := s.pc + 1#16 }

/-- ANA, ANI, ORA, ORI, XRA, XRI: result, S Z P from it, CY reset, AC set by AND and reset by the others. R160 to R166. -/
def Obligations.BitwiseInstructionsWriteResultAndFlags : Prop :=
  ∀ (src : Operand8) (d8 : Byte) (s : State),
    encode (.ana src) = [0b10100#5 ++ src.code] ∧ encode (.ora src) = [0b10110#5 ++ src.code] ∧
    encode (.xra src) = [0b10101#5 ++ src.code] ∧ encode (.ani d8) = [0b11100110#8, d8] ∧
    encode (.ori d8) = [0b11110110#8, d8] ∧ encode (.xri d8) = [0b11101110#8, d8] ∧
    (∃ f : Flags, Reflects (s.a &&& (s.rd8 src).1) f ∧ f.ac = true ∧ f.cy = false ∧ exec (.ana src) s =
      .next { (s.rd8 src).2 with a := s.a &&& (s.rd8 src).1, flags := f, pc := s.pc + 1#16 }) ∧
    (∃ f : Flags, Reflects (s.a ||| (s.rd8 src).1) f ∧ f.ac = false ∧ f.cy = false ∧ exec (.ora src) s =
      .next { (s.rd8 src).2 with a := s.a ||| (s.rd8 src).1, flags := f, pc := s.pc + 1#16 }) ∧
    (∃ f : Flags, Reflects (s.a ^^^ (s.rd8 src).1) f ∧ f.ac = false ∧ f.cy = false ∧ exec (.xra src) s =
      .next { (s.rd8 src).2 with a := s.a ^^^ (s.rd8 src).1, flags := f, pc := s.pc + 1#16 }) ∧
    (∃ f : Flags, Reflects (s.a &&& d8) f ∧ f.ac = true ∧ f.cy = false ∧ exec (.ani d8) s =
      .next { s with a := s.a &&& d8, flags := f, pc := s.pc + 2#16 }) ∧
    (∃ f : Flags, Reflects (s.a ||| d8) f ∧ f.ac = false ∧ f.cy = false ∧ exec (.ori d8) s =
      .next { s with a := s.a ||| d8, flags := f, pc := s.pc + 2#16 }) ∧
    (∃ f : Flags, Reflects (s.a ^^^ d8) f ∧ f.ac = false ∧ f.cy = false ∧ exec (.xri d8) s =
      .next { s with a := s.a ^^^ d8, flags := f, pc := s.pc + 2#16 })

/-- CMA inverts A and touches no flag; CMC complements CY; STC sets it. R167, R170, R171. -/
def Obligations.ComplementAndCarryInstructions : Prop :=
  ∀ s : State, encode .cma = [0b00101111#8] ∧ encode .cmc = [0b00111111#8] ∧ encode .stc = [0b00110111#8] ∧
    exec .cma s = .next { s with a := ~~~s.a, pc := s.pc + 1#16 } ∧
    exec .cmc s = .next { s with flags := { s.flags with cy := !s.flags.cy }, pc := s.pc + 1#16 } ∧
    exec .stc s = .next { s with flags := { s.flags with cy := true }, pc := s.pc + 1#16 }

/-- RLC, RAL, RRC, RAR move every bit of A by one position and CY takes D7 or D0. R172 to R175. -/
def Obligations.RotatesMoveEachBit : Prop :=
  ∀ s : State, encode .rlc = [0b00000111#8] ∧ encode .ral = [0b00010111#8] ∧
    encode .rrc = [0b00001111#8] ∧ encode .rar = [0b00011111#8] ∧
    (∃ r : Byte, (∀ k : Nat, k < 8 → r.getLsbD k = s.a.getLsbD ((k + 7) % 8)) ∧ exec .rlc s = .next
      { s with a := r, flags := { s.flags with cy := s.a.getLsbD 7 }, pc := s.pc + 1#16 }) ∧
    (∃ r : Byte, (∀ k : Nat, k < 7 → r.getLsbD (k + 1) = s.a.getLsbD k) ∧ r.getLsbD 0 = s.flags.cy ∧ exec .ral s = .next
      { s with a := r, flags := { s.flags with cy := s.a.getLsbD 7 }, pc := s.pc + 1#16 }) ∧
    (∃ r : Byte, (∀ k : Nat, k < 8 → r.getLsbD k = s.a.getLsbD ((k + 1) % 8)) ∧ exec .rrc s = .next
      { s with a := r, flags := { s.flags with cy := s.a.getLsbD 0 }, pc := s.pc + 1#16 }) ∧
    (∃ r : Byte, (∀ k : Nat, k < 7 → r.getLsbD k = s.a.getLsbD (k + 1)) ∧ r.getLsbD 7 = s.flags.cy ∧ exec .rar s = .next
      { s with a := r, flags := { s.flags with cy := s.a.getLsbD 0 }, pc := s.pc + 1#16 })

/-- JMP goes to its address and PCHL to HL, and nothing else changes. R190, R191. -/
def Obligations.JumpsSetPc : Prop :=
  ∀ (a16 : Word) (s : State), encode (.jmp a16) = [0xC3#8, loByte a16, hiByte a16] ∧ encode .pchl = [0xE9#8] ∧
    exec (.jmp a16) s = .next { s with pc := a16 } ∧
    exec .pchl s = .next { s with pc := joinBytes s.h s.l }

/-- Each conditional jump goes to its address exactly when its flag has the wanted value. R200 to R209. -/
def Obligations.ConditionalJumpsTestTheirFlag : Prop :=
  ∀ (w : Word) (s : State),
    encode (.jnz w) = [0xC2#8, loByte w, hiByte w] ∧
    exec (.jnz w) s = .next { s with pc := if s.flags.z = false then w else s.pc + 3#16 } ∧
    encode (.jz w) = [0xCA#8, loByte w, hiByte w] ∧
    exec (.jz w) s = .next { s with pc := if s.flags.z = true then w else s.pc + 3#16 } ∧
    encode (.jnc w) = [0xD2#8, loByte w, hiByte w] ∧
    exec (.jnc w) s = .next { s with pc := if s.flags.cy = false then w else s.pc + 3#16 } ∧
    encode (.jc w) = [0xDA#8, loByte w, hiByte w] ∧
    exec (.jc w) s = .next { s with pc := if s.flags.cy = true then w else s.pc + 3#16 } ∧
    encode (.jpo w) = [0xE2#8, loByte w, hiByte w] ∧
    exec (.jpo w) s = .next { s with pc := if s.flags.p = false then w else s.pc + 3#16 } ∧
    encode (.jpe w) = [0xEA#8, loByte w, hiByte w] ∧
    exec (.jpe w) s = .next { s with pc := if s.flags.p = true then w else s.pc + 3#16 } ∧
    encode (.jp w) = [0xF2#8, loByte w, hiByte w] ∧
    exec (.jp w) s = .next { s with pc := if s.flags.s = false then w else s.pc + 3#16 } ∧
    encode (.jm w) = [0xFA#8, loByte w, hiByte w] ∧
    exec (.jm w) s = .next { s with pc := if s.flags.s = true then w else s.pc + 3#16 }

/-- CALL and RST n push the address of the next instruction and go to a16 or 8n. R192, R234. -/
def Obligations.CallAndRestartPushReturnAddress : Prop :=
  (∀ (a16 : Word) (s : State), encode (.call a16) = [0xCD#8, loByte a16, hiByte a16] ∧
    exec (.call a16) s = .next
      { (s.memWrite (s.sp - 1#16) (hiByte (s.pc + 3#16))).memWrite (s.sp - 2#16) (loByte (s.pc + 3#16)) with
        sp := s.sp - 2#16, pc := a16 }) ∧
  (∀ (n : BitVec 3) (s : State), encode (.rst n) = [0b11#2 ++ n ++ 0b111#3] ∧
    exec (.rst n) s = .next
      { (s.memWrite (s.sp - 1#16) (hiByte (s.pc + 1#16))).memWrite (s.sp - 2#16) (loByte (s.pc + 1#16)) with
        sp := s.sp - 2#16, pc := BitVec.ofNat 16 (8 * n.toNat) })

/-- Each conditional call is CALL when its flag has the wanted value, else goes to the next instruction. R210 to R218. -/
def Obligations.ConditionalCallsTestTheirFlag : Prop :=
  ∀ (w : Word) (s : State), ∃ t : State,
    t = { (s.memWrite (s.sp - 1#16) (hiByte (s.pc + 3#16))).memWrite (s.sp - 2#16) (loByte (s.pc + 3#16)) with
          sp := s.sp - 2#16, pc := w } ∧ exec (.call w) s = .next t ∧
    encode (.cnz w) = [0xC4#8, loByte w, hiByte w] ∧
    exec (.cnz w) s = .next (if s.flags.z = false then t else { s with pc := s.pc + 3#16 }) ∧
    encode (.cz w) = [0xCC#8, loByte w, hiByte w] ∧
    exec (.cz w) s = .next (if s.flags.z = true then t else { s with pc := s.pc + 3#16 }) ∧
    encode (.cnc w) = [0xD4#8, loByte w, hiByte w] ∧
    exec (.cnc w) s = .next (if s.flags.cy = false then t else { s with pc := s.pc + 3#16 }) ∧
    encode (.cc w) = [0xDC#8, loByte w, hiByte w] ∧
    exec (.cc w) s = .next (if s.flags.cy = true then t else { s with pc := s.pc + 3#16 }) ∧
    encode (.cpo w) = [0xE4#8, loByte w, hiByte w] ∧
    exec (.cpo w) s = .next (if s.flags.p = false then t else { s with pc := s.pc + 3#16 }) ∧
    encode (.cpe w) = [0xEC#8, loByte w, hiByte w] ∧
    exec (.cpe w) s = .next (if s.flags.p = true then t else { s with pc := s.pc + 3#16 }) ∧
    encode (.cp w) = [0xF4#8, loByte w, hiByte w] ∧
    exec (.cp w) s = .next (if s.flags.s = false then t else { s with pc := s.pc + 3#16 }) ∧
    encode (.cm w) = [0xFC#8, loByte w, hiByte w] ∧
    exec (.cm w) s = .next (if s.flags.s = true then t else { s with pc := s.pc + 3#16 })

/-- RET pops pc, low byte first; each conditional return does so exactly when its flag has the wanted value. R193, R219 to R227. -/
def Obligations.ReturnsPopPc : Prop :=
  ∀ s : State, ∃ t : State,
    t = { ((s.memRead s.sp).2.memRead (s.sp + 1#16)).2 with
          sp := s.sp + 2#16, pc := joinBytes ((s.memRead s.sp).2.memRead (s.sp + 1#16)).1 (s.memRead s.sp).1 } ∧
    encode .ret = [0xC9#8] ∧ exec .ret s = .next t ∧
    encode .rnz = [0xC0#8] ∧
    exec .rnz s = .next (if s.flags.z = false then t else { s with pc := s.pc + 1#16 }) ∧
    encode .rz = [0xC8#8] ∧
    exec .rz s = .next (if s.flags.z = true then t else { s with pc := s.pc + 1#16 }) ∧
    encode .rnc = [0xD0#8] ∧
    exec .rnc s = .next (if s.flags.cy = false then t else { s with pc := s.pc + 1#16 }) ∧
    encode .rc = [0xD8#8] ∧
    exec .rc s = .next (if s.flags.cy = true then t else { s with pc := s.pc + 1#16 }) ∧
    encode .rpo = [0xE0#8] ∧
    exec .rpo s = .next (if s.flags.p = false then t else { s with pc := s.pc + 1#16 }) ∧
    encode .rpe = [0xE8#8] ∧
    exec .rpe s = .next (if s.flags.p = true then t else { s with pc := s.pc + 1#16 }) ∧
    encode .rp = [0xF0#8] ∧
    exec .rp s = .next (if s.flags.s = false then t else { s with pc := s.pc + 1#16 }) ∧
    encode .rm = [0xF8#8] ∧
    exec .rm s = .next (if s.flags.s = true then t else { s with pc := s.pc + 1#16 })

/-- RET executed in the state a CALL or RST gives resumes after it with SP restored. R192, R193: the pairing of CALL with RET. -/
def Obligations.CallThenReturnResumes : Prop :=
  ∀ s : State, regionOf s.params (s.sp - 1#16) = Region.ram → regionOf s.params (s.sp - 2#16) = Region.ram →
    (∀ a16 : Word, ∃ t : State, exec (.call a16) s = .next t ∧ t.pc = a16 ∧
      exec .ret t = .next { t with pc := s.pc + 3#16, sp := s.sp }) ∧
    (∀ n : BitVec 3, ∃ t : State, exec (.rst n) s = .next t ∧ t.pc.toNat = 8 * n.toNat ∧
      exec .ret t = .next { t with pc := s.pc + 1#16, sp := s.sp })

/-- XTHL exchanges HL with the two bytes at SP and SP + 1; twice, it restores both. R194. -/
def Obligations.XthlExchangesHlWithStackTop : Prop :=
  (∀ s : State, encode .xthl = [0b11100011#8] ∧ exec .xthl s = .next
    { (((s.memRead s.sp).2.memRead (s.sp + 1#16)).2.memWrite (s.sp + 1#16) s.h).memWrite s.sp s.l with
      l := (s.memRead s.sp).1, h := ((s.memRead s.sp).2.memRead (s.sp + 1#16)).1, pc := s.pc + 1#16 }) ∧
  (∀ (s : State) (lo hi : Byte), regionOf s.params s.sp = Region.ram → regionOf s.params (s.sp + 1#16) = Region.ram →
    Memory.get? s.mem s.sp.toNat = some lo → Memory.get? s.mem (s.sp + 1#16).toNat = some hi →
    ∃ t u : State, exec .xthl s = .next t ∧ t.l = lo ∧ t.h = hi ∧ t.sp = s.sp ∧
      Memory.get? t.mem s.sp.toNat = some s.l ∧ Memory.get? t.mem (s.sp + 1#16).toNat = some s.h ∧
      MemoryKeptBut [s.sp, s.sp + 1#16] s t ∧
      exec .xthl t = .next u ∧ u.l = s.l ∧ u.h = s.h ∧ u.sp = s.sp ∧ MemoryKeptBut [] s u)

/-- PUSH stores a pair and POP loads one, PSW being A with the flag byte S Z - AC - P - CY. R232, R233, R27. That the three unused bits are one free value at each PUSH PSW is the model's choice (log 9, DESIGN CHOICE), as is the counter `draws` it advances (log 3, DESIGN CHOICE). -/
def Obligations.PushAndPopMovePairs : Prop :=
  (∀ (rp : StackPair) , encode (.push rp) = [0b11#2 ++ rp.code ++ 0b0101#4] ∧
    encode (.pop rp) = [0b11#2 ++ rp.code ++ 0b0001#4]) ∧
  (∀ (s : State) (rp : StackPair) (hi lo : Byte),
    (rp, hi, lo) ∈ [(StackPair.bc, s.b, s.c), (StackPair.de, s.d, s.e), (StackPair.hl, s.h, s.l)] →
    exec (.push rp) s = .next { (s.memWrite (s.sp - 1#16) hi).memWrite (s.sp - 2#16) lo with
      sp := s.sp - 2#16, pc := s.pc + 1#16 }) ∧
  (∀ s : State, ∃ f : Byte, f.getLsbD 7 = s.flags.s ∧ f.getLsbD 6 = s.flags.z ∧ f.getLsbD 4 = s.flags.ac ∧
    f.getLsbD 2 = s.flags.p ∧ f.getLsbD 0 = s.flags.cy ∧
    exec (.push .psw) s = .next { (s.memWrite (s.sp - 1#16) s.a).memWrite (s.sp - 2#16) f with
      sp := s.sp - 2#16, pc := s.pc + 1#16, draws := s.draws + 1 }) ∧
  (∀ s : State, ∃ (lo hi : Byte) (t : State), (lo, t) = (((s.memRead s.sp).1 : Byte), ((s.memRead s.sp).2.memRead (s.sp + 1#16)).2) ∧
    hi = ((s.memRead s.sp).2.memRead (s.sp + 1#16)).1 ∧
    exec (.pop .bc) s = .next { t with b := hi, c := lo, sp := s.sp + 2#16, pc := s.pc + 1#16 } ∧
    exec (.pop .de) s = .next { t with d := hi, e := lo, sp := s.sp + 2#16, pc := s.pc + 1#16 } ∧
    exec (.pop .hl) s = .next { t with h := hi, l := lo, sp := s.sp + 2#16, pc := s.pc + 1#16 } ∧
    exec (.pop .psw) s = .next { t with
      a := hi
      flags := { s := lo.getLsbD 7, z := lo.getLsbD 6, ac := lo.getLsbD 4, p := lo.getLsbD 2, cy := lo.getLsbD 0 }
      sp := s.sp + 2#16
      pc := s.pc + 1#16 })

/-- POP PSW after PUSH PSW restores A, the flags and SP, whatever the unused bits. R27: POP PSW discards the bits PUSH PSW draws. -/
def Obligations.PushPswThenPopPswRestores : Prop :=
  ∀ s : State, regionOf s.params (s.sp - 1#16) = Region.ram → regionOf s.params (s.sp - 2#16) = Region.ram →
    ∃ t : State, exec (.push .psw) s = .next t ∧ t.a = s.a ∧ t.flags = s.flags ∧
      exec (.pop .psw) t = .next { t with sp := s.sp, pc := s.pc + 2#16 }

/-- NOP advances pc; HLT enters the halt state with pc as HLT_PC says; SPHL copies HL to SP. R230, R235, and the pseudocode of R231; what a halted machine does is said by the statements on acceptance, reset and the idle step. -/
def Obligations.NopHltAndSphl : Prop :=
  ∀ s : State, encode .nop = [0x00#8] ∧ encode .hlt = [0x76#8] ∧ encode .sphl = [0xF9#8] ∧
    exec .nop s = .next { s with pc := s.pc + 1#16 } ∧
    (s.params.hltPc = HltPc.stay → exec .hlt s = .next { s with halted := true }) ∧
    (s.params.hltPc = HltPc.advance → exec .hlt s = .next { s with halted := true, pc := s.pc + 1#16 }) ∧
    exec .sphl s = .next { s with sp := joinBytes s.h s.l, pc := s.pc + 1#16 }

/-- IN loads A with the byte the port answers; OUT sends A; both are recorded in order. R67, R236, R237. -/
def Obligations.PortInputAndOutput : Prop :=
  ∀ (p8 : Byte) (s : State), encode (.inp p8) = [0xDB#8, p8] ∧ encode (.out p8) = [0xD3#8, p8] ∧
    (∃ (v : Byte) (answers : List Byte) (k : Nat), exec (.inp p8) s = .next { s with
      a := v, answers := answers, draws := k, log := s.log ++ [.ioRead p8 v], pc := s.pc + 2#16 }) ∧
    exec (.out p8) s = .next { s with log := s.log ++ [.ioWrite p8 s.a], pc := s.pc + 2#16 }

/-- IN takes the first byte of the answers queue, or some byte where the queue is empty (the model's queue, log 5). R67 and R236 leave the byte to the environment; that it comes from a queue held in State is the model's choice (log 5). -/
def Obligations.PortReadTakesTheNextAnswer : Prop :=
  ∀ (p8 : Byte) (s : State),
    (∀ (v : Byte) (rest : List Byte), s.answers = v :: rest → exec (.inp p8) s = .next { s with
      a := v, answers := rest, log := s.log ++ [.ioRead p8 v], pc := s.pc + 2#16 }) ∧
    (s.answers = [] → ∃ v : Byte, exec (.inp p8) s = .next { s with
      a := v, draws := s.draws + 1, log := s.log ++ [.ioRead p8 v], pc := s.pc + 2#16 })

/-- EI sets IE, with a shadow only under EI_DELAY = one_instruction; DI clears IE; nothing else changes. R238, R239. -/
def Obligations.EnableAndDisableInterrupts : Prop :=
  ∀ s : State, encode .ei = [0xFB#8] ∧ encode .di = [0xF3#8] ∧
    (s.params.eiDelay = EiDelay.none →
      exec .ei s = .next { s with ie := true, eiShadow := false, pc := s.pc + 1#16 } ∧
      ({ s with ie := true, eiShadow := false } : State).enabled = true) ∧
    (s.params.eiDelay = EiDelay.oneInstruction →
      exec .ei s = .next { s with ie := true, eiShadow := true, pc := s.pc + 1#16 } ∧
      ({ s with ie := true, eiShadow := true } : State).enabled = false) ∧
    exec .di s = .next { s with ie := false, pc := s.pc + 1#16 }

/-- The shadow of an EI holds off the maskable interrupts for one instruction. R285 (c). -/
def Obligations.EiShadowLastsOneInstruction : Prop :=
  (∀ (s : State) (src : Source), s.params.eiDelay = EiDelay.oneInstruction → s.eiShadow = true →
    s.sample.acceptable = some src → src = Source.trap) ∧
  (∀ (s t : State) (i : Instr), s.Executes →
    decodeBytes s.sample.fetch.1.1 s.sample.fetch.1.2.1 s.sample.fetch.1.2.2 = some i →
    step s = .next t → i ≠ .ei → t.eiShadow = false)

/-- RIM reads SID, the pending bits, IE and the masks into A. R240 and R36. That bits 7, 5 and 4 are the inputs of the boundary before the instruction is the model's reading (log 10, DEDUCED); bit 3 after a TRAP and the field trapSinceRim, and that free bits advance `draws`, are the model's choice (log 11 and log 3, DESIGN CHOICE). -/
def Obligations.RimReadsInterruptStatus : Prop :=
  ∀ s : State, encode .rim = [0x20#8] ∧
    ∃ (v : Byte) (k : Nat), exec .rim s = .next { s with a := v, trapSinceRim := false, draws := k, pc := s.pc + 1#16 } ∧
      (∀ level : Bool, s.now.sid = some level → v.getLsbD 7 = level) ∧
      v.getLsbD 6 = s.r75 ∧ v.getLsbD 5 = s.now.l65 ∧ v.getLsbD 4 = s.now.l55 ∧
      (s.trapSinceRim = false → v.getLsbD 3 = s.ie) ∧
      v.getLsbD 2 = s.m75 ∧ v.getLsbD 1 = s.m65 ∧ v.getLsbD 0 = s.m55

/-- SIM sets the masks, clears R75 and latches SOD, each under its own enable bit of A. R241. -/
def Obligations.SimSetsMasksLatchAndSerialOutput : Prop :=
  ∀ s : State, encode .sim = [0x30#8] ∧ exec .sim s = .next { s with
    m75 := if s.a.getLsbD 3 = true then s.a.getLsbD 2 else s.m75
    m65 := if s.a.getLsbD 3 = true then s.a.getLsbD 1 else s.m65
    m55 := if s.a.getLsbD 3 = true then s.a.getLsbD 0 else s.m55
    r75 := if s.a.getLsbD 4 = true then false else s.r75
    sod := if s.a.getLsbD 6 = true then s.a.getLsbD 7 else s.sod
    pc := s.pc + 1#16 }

/-- Each instruction has the machine cycles and T-states of the timing table, HLT's figures being the least it gives. R287 row by row, with R286 and R288; information only. That HLT counts 2 machine cycles and 5 T-states, the least of "2 or more" and "5 or more", and so has at most 5 cycles, is the model's choice (log 20, DESIGN CHOICE). -/
def Obligations.MachineCyclesFitTheInstruction : Prop :=
  (∀ (r q : Reg) (rp : Pair) (pp : PointerPair) (sp : StackPair) (n : BitVec 3) (v : Byte) (w : Word),
    (∀ row ∈ [
      ([Instr.mov (.reg r) (.reg q), .xchg, .add (.reg r), .adc (.reg r), .sub (.reg r), .sbb (.reg r),
        .ana (.reg r), .ora (.reg r), .xra (.reg r), .cmp (.reg r), .inr (.reg r), .dcr (.reg r), .daa, .cma,
        .cmc, .stc, .rlc, .ral, .rrc, .rar, .nop, .ei, .di, .rim, .sim], 1, 4, [Cycle.fetch4]),
      ([Instr.inx rp, .dcx rp, .pchl, .sphl], 1, 6, [Cycle.fetch6]),
      ([Instr.mov (.reg r) .m, .mvi (.reg r) v, .ldax pp, .add .m, .adc .m, .sub .m, .sbb .m, .ana .m, .ora .m,
        .xra .m, .cmp .m, .adi v, .aci v, .sui v, .sbi v, .ani v, .ori v, .xri v, .cpi v],
        2, 7, [Cycle.fetch4, .memRead]),
      ([Instr.mov .m (.reg r), .stax pp], 2, 7, [Cycle.fetch4, .memWrite]),
      ([Instr.mvi .m v, .inr .m, .dcr .m], 3, 10, [Cycle.fetch4, .memRead, .memWrite]),
      ([Instr.lxi rp w, .jmp w, .ret, .pop sp], 3, 10, [Cycle.fetch4, .memRead, .memRead]),
      ([Instr.dad rp], 3, 10, [Cycle.fetch4, .busIdle, .busIdle]),
      ([Instr.inp v], 3, 10, [Cycle.fetch4, .memRead, .ioRead]),
      ([Instr.out v], 3, 10, [Cycle.fetch4, .memRead, .ioWrite]),
      ([Instr.push sp, .rst n], 3, 12, [Cycle.fetch6, .memWrite, .memWrite]),
      ([Instr.lda w], 4, 13, [Cycle.fetch4, .memRead, .memRead, .memRead]),
      ([Instr.sta w], 4, 13, [Cycle.fetch4, .memRead, .memRead, .memWrite]),
      ([Instr.lhld w], 5, 16, [Cycle.fetch4, .memRead, .memRead, .memRead, .memRead]),
      ([Instr.shld w], 5, 16, [Cycle.fetch4, .memRead, .memRead, .memWrite, .memWrite]),
      ([Instr.xthl], 5, 16, [Cycle.fetch4, .memRead, .memRead, .memWrite, .memWrite]),
      ([Instr.call w], 5, 18, [Cycle.fetch6, .memRead, .memRead, .memWrite, .memWrite])],
      ∀ i ∈ row.1, ∀ taken : Bool, (cyclesOf i taken).length = row.2.1 ∧ tStatesOf i taken = row.2.2.1 ∧
        cyclesOf i taken = row.2.2.2) ∧
    (∀ row ∈ [
      ([Instr.jnz w, .jz w, .jnc w, .jc w, .jpo w, .jpe w, .jp w, .jm w], false, 2, 7, [Cycle.fetch4, .memRead]),
      ([Instr.jnz w, .jz w, .jnc w, .jc w, .jpo w, .jpe w, .jp w, .jm w],
        true, 3, 10, [Cycle.fetch4, .memRead, .memRead]),
      ([Instr.cnz w, .cz w, .cnc w, .cc w, .cpo w, .cpe w, .cp w, .cm w], false, 2, 9, [Cycle.fetch6, .memRead]),
      ([Instr.cnz w, .cz w, .cnc w, .cc w, .cpo w, .cpe w, .cp w, .cm w],
        true, 5, 18, [Cycle.fetch6, .memRead, .memRead, .memWrite, .memWrite]),
      ([Instr.rnz, .rz, .rnc, .rc, .rpo, .rpe, .rp, .rm], false, 1, 6, [Cycle.fetch6]),
      ([Instr.rnz, .rz, .rnc, .rc, .rpo, .rpe, .rp, .rm], true, 3, 12, [Cycle.fetch6, .memRead, .memRead])],
      ∀ i ∈ row.1, (cyclesOf i row.2.1).length = row.2.2.1 ∧ tStatesOf i row.2.1 = row.2.2.2.1 ∧
        cyclesOf i row.2.1 = row.2.2.2.2)) ∧
  (∀ taken : Bool, (cyclesOf .hlt taken).length = 2 ∧ tStatesOf .hlt taken = 5 ∧
    (cyclesOf .hlt taken).head? = some Cycle.fetch4) ∧
  (∀ (i : Instr) (taken : Bool), ∃ (first : Cycle) (rest : List Cycle), cyclesOf i taken = first :: rest ∧
    (first = Cycle.fetch4 ∨ first = Cycle.fetch6) ∧ rest.length ≤ 4 ∧
    Cycle.fetch4 ∉ rest ∧ Cycle.fetch6 ∉ rest ∧
    (i ≠ .hlt → tStatesOf i taken = first.tStates + 3 * rest.length) ∧
    tStatesOf i false ≤ tStatesOf i true)

/-- A delay loop of n + 1 passes takes (n + 1) b - 3 T-states, b the cost of a pass with the jump taken. R289 (derived there): T_L = n * b - 3. -/
def Obligations.DelayLoopTStates : Prop :=
  ∀ (body : List (Instr × Bool)) (a16 : Word) (jump : Instr) (n : Nat),
    jump ∈ [Instr.jnz a16, .jz a16, .jnc a16, .jc a16, .jpo a16, .jpe a16, .jp a16, .jm a16] →
    pathTStates (loopPath body jump n) + 3 = (n + 1) * (pathTStates body + tStatesOf jump true)
end

