-- ==== Sys2Proof/Laws/Decode.lean ====
section
/-! SUPPORT. The byte halves of a word, and the field codes: each decodes to what it encodes. -/
namespace Sys2Proof

/-- The bits of a joined word, those of the low-order byte first. -/
theorem getLsbD_joinBytes (hi lo : Byte) (i : Nat) :
    (joinBytes hi lo).getLsbD i = if i < 8 then lo.getLsbD i else hi.getLsbD (i - 8) := by
  have h := @BitVec.getLsbD_append 8 8 i hi lo
  show (hi ++ lo : BitVec (8 + 8)).getLsbD i = _
  rw [h]

@[simp] theorem hiByte_joinBytes (hi lo : Byte) : hiByte (joinBytes hi lo) = hi := by
  apply BitVec.eq_of_getLsbD_eq
  intro i h
  rw [hiByte, BitVec.getLsbD_extractLsb', getLsbD_joinBytes, if_neg (by omega), Nat.add_sub_cancel_left]
  simp [h]

@[simp] theorem loByte_joinBytes (hi lo : Byte) : loByte (joinBytes hi lo) = lo := by
  apply BitVec.eq_of_getLsbD_eq
  intro i h
  rw [loByte, BitVec.getLsbD_extractLsb', getLsbD_joinBytes, if_pos (by omega), Nat.zero_add]
  simp [h]

@[simp] theorem joinBytes_hiByte_loByte (w : Word) : joinBytes (hiByte w) (loByte w) = w := by
  apply BitVec.eq_of_getLsbD_eq
  intro i h
  rw [getLsbD_joinBytes, hiByte, loByte, BitVec.getLsbD_extractLsb', BitVec.getLsbD_extractLsb']
  by_cases h8 : i < 8
  · simp [h8]
  · rw [if_neg h8, show 8 + (i - 8) = i by omega]
    simp [show i - 8 < 8 by omega]

@[simp] theorem operand8OfCode_code (o : Operand8) : operand8OfCode o.code = o := by
  cases o with
  | reg r => cases r <;> rfl
  | m => rfl

@[simp] theorem code_operand8OfCode (k : BitVec 3) : (operand8OfCode k).code = k := by
  revert k; decide

@[simp] theorem pairOfCode_code (p : Pair) : pairOfCode p.code = p := by cases p <;> rfl

@[simp] theorem code_pairOfCode (k : BitVec 2) : (pairOfCode k).code = k := by revert k; decide

@[simp] theorem stackPairOfCode_code (p : StackPair) : stackPairOfCode p.code = p := by cases p <;> rfl

@[simp] theorem code_stackPairOfCode (k : BitVec 2) : (stackPairOfCode k).code = k := by revert k; decide

end Sys2Proof
end

