-- ==== Sys2Proof/Laws/Flags.lean ====
section
/-! SUPPORT. The flag computations over numbers: what `add8`, `sub8` and the PSW byte give, once each. -/
namespace Sys2Proof.Machine

/-- The parity flag counts the 1 bits. -/
theorem par_iff (v : Byte) : par v = true ↔ ((List.range 8).filter fun k => v.getLsbD k).length % 2 = 0 := by
  revert v; decide +kernel

/-- `szp` of a result, whatever AC and CY. -/
theorem flagsOf_reflects (r : Byte) (ac cy : Bool) : Reflects r (flagsOf r ac cy) :=
  ⟨rfl, by simp [flagsOf, zer], par_iff r⟩

/-- S, Z and P speak of the result only. -/
theorem Reflects.of_szp {r : Byte} {f g : Flags} (h : Reflects r f) (hs : g.s = f.s) (hz : g.z = f.z) (hp : g.p = f.p) :
    Reflects r g := by
  simpa [Reflects, hs, hz, hp] using h

/-- The sum and its flags (`41_arithmetic.md` R130). -/
theorem add8_isSum (a b : Byte) (cin : Bool) : IsSum a b cin (add8 a b cin).1 (add8 a b cin).2 := by
  refine ⟨by simp [add8], ?_, ?_, flagsOf_reflects _ _ _⟩
  · simp [add8, flagsOf]; omega
  · simp [add8, flagsOf, lowNibble]; omega

/-- The low nibble of a complement. -/
theorem lowNibble_not (b : Byte) : lowNibble (~~~b) = 15 - lowNibble b := by
  simp only [lowNibble, BitVec.toNat_not]
  omega

/-- The adder's carry is 1 exactly when no borrow from bit 4 is needed (`41_arithmetic.md` R131). -/
theorem subAdderCarry_iff (a b : Byte) (bin : Bool) :
    subAdderCarry a b bin = true ↔ b.toNat % 16 + bin.toNat ≤ a.toNat % 16 := by
  have : bin.toNat ≤ 1 := Bool.toNat_le bin
  rw [subAdderCarry, lowNibble_not, decide_eq_true_eq]
  simp only [lowNibble]
  omega

/-- The difference and its flags (`41_arithmetic.md` R131). -/
theorem sub8_isDifference (rule : AcSubRule) (a b : Byte) (bin : Bool) :
    IsDifference rule a b bin (sub8 rule a b bin).1 (sub8 rule a b bin).2 := by
  refine ⟨?_, by simp [sub8, flagsOf], ?_, ?_, flagsOf_reflects _ _ _⟩
  · have ha := a.isLt
    have hb := b.isLt
    have hc : bin.toNat ≤ 1 := Bool.toNat_le bin
    simp only [sub8, BitVec.toNat_sub, BitVec.toNat_ofNat]
    omega
  · rintro rfl
    simpa [sub8, flagsOf, acSub] using subAdderCarry_iff a b bin
  · rintro rfl
    have h := subAdderCarry_iff a b bin
    cases hc : subAdderCarry a b bin <;> simp [sub8, flagsOf, acSub, hc] at h ⊢ <;> omega

/-- POP PSW reads back the five flags PUSH PSW stored, whatever the unused bits (`10_state.md` R27). -/
@[simp] theorem Flags.ofByte_toByte (f : Flags) (u : BitVec 3) : Flags.ofByte (f.toByte u) = f := by
  obtain ⟨s, z, ac, p, cy⟩ := f
  revert s z ac p cy u
  decide +kernel

end Sys2Proof.Machine
end

