-- ==== Sys2Proof/Laws/Memory.lean ====
section
/-! SUPPORT. The laws of the memory as data: read after write, and the canonical form. -/
namespace Sys2Proof.Machine

@[simp] theorem Memory.get?_nil (a : Nat) : Memory.get? [] a = none := rfl

/-- A read of the address just written gives the value written. -/
@[simp] theorem Memory.get?_set_same (m : Memory) (a : Nat) (v : Byte) :
    Memory.get? (Memory.set m a v) a = some v := by
  induction m with
  | nil => simp [Memory.set, Memory.get?]
  | cons e m ih =>
    obtain ⟨k, w⟩ := e
    unfold Memory.set
    split
    · simp [Memory.get?]
    · split
      · simp [Memory.get?]
      · rename_i h
        simpa [Memory.get?, Ne.symm h] using ih

/-- A write leaves every other address. -/
theorem Memory.get?_set_ne (m : Memory) {a x : Nat} (v : Byte) (h : x ≠ a) :
    Memory.get? (Memory.set m a v) x = Memory.get? m x := by
  induction m with
  | nil => simp [Memory.set, Memory.get?, Ne.symm h]
  | cons e m ih =>
    obtain ⟨k, w⟩ := e
    unfold Memory.set
    split
    · simp [Memory.get?, Ne.symm h]
    · split
      · rename_i hk
        subst hk
        simp [Memory.get?, Ne.symm h]
      · simp [Memory.get?, ih]

/-- A write at or above the lower bound keeps the addresses rising from it. -/
theorem Memory.risingFrom_set {m : Memory} {lo a : Nat} (v : Byte) (hm : Memory.risingFrom lo m = true)
    (hlo : lo ≤ a) (ha : a < 65536) : Memory.risingFrom lo (Memory.set m a v) = true := by
  induction m generalizing lo with
  | nil => simp [Memory.set, Memory.risingFrom, hlo, ha]
  | cons e m ih =>
    obtain ⟨k, w⟩ := e
    simp only [Memory.risingFrom, Bool.and_eq_true, decide_eq_true_eq] at hm
    unfold Memory.set
    split
    · rename_i h
      simp only [Memory.risingFrom, Bool.and_eq_true, decide_eq_true_eq]
      exact ⟨⟨hlo, ha⟩, ⟨⟨h, hm.1.2⟩, hm.2⟩⟩
    · split
      · rename_i h
        subst h
        simpa [Memory.risingFrom] using hm
      · simp only [Memory.risingFrom, Bool.and_eq_true, decide_eq_true_eq]
        exact ⟨hm.1, ih hm.2 (by omega)⟩

/-- A write inside the address space keeps the canonical form. -/
theorem Memory.wf_set {m : Memory} {a : Nat} (hm : Memory.wf m = true) (ha : a < 65536) (v : Byte) :
    Memory.wf (Memory.set m a v) = true :=
  Memory.risingFrom_set v hm (Nat.zero_le _) ha

/-- The memory right after reset is in canonical form. -/
theorem Memory.wf_reset : Memory.wf State.reset.mem = true := rfl

/-- Nothing below the lower bound is listed. -/
theorem Memory.get?_below {m : Memory} {lo x : Nat} (hm : Memory.risingFrom lo m = true) (hx : x < lo) :
    Memory.get? m x = none := by
  induction m generalizing lo with
  | nil => rfl
  | cons e m ih =>
    obtain ⟨k, w⟩ := e
    simp only [Memory.risingFrom, Bool.and_eq_true, decide_eq_true_eq] at hm
    rw [Memory.get?, if_neg (by omega)]
    exact ih hm.2 (by omega)

/-- Memories in canonical form that read alike at every address are equal data. -/
theorem Memory.ext_of_get? {m n : Memory} {lo : Nat} (hm : Memory.risingFrom lo m = true)
    (hn : Memory.risingFrom lo n = true) (h : ∀ x, Memory.get? m x = Memory.get? n x) : m = n := by
  induction m generalizing n lo with
  | nil =>
    cases n with
    | nil => rfl
    | cons e n => obtain ⟨k, w⟩ := e; simpa [Memory.get?] using h k
  | cons e m ih =>
    obtain ⟨k, w⟩ := e
    cases n with
    | nil => simpa [Memory.get?] using h k
    | cons f n =>
      obtain ⟨j, u⟩ := f
      simp only [Memory.risingFrom, Bool.and_eq_true, decide_eq_true_eq] at hm hn
      have hk := h k
      have hj := h j
      have hkj : k = j := by
        rcases Nat.lt_trichotomy k j with hlt | heq | hgt
        · rw [Memory.get?, if_pos rfl, Memory.get?, if_neg (by omega), Memory.get?_below hn.2 (by omega)] at hk
          cases hk
        · exact heq
        · rw [Memory.get?, if_neg (by omega), Memory.get?_below hm.2 (by omega), Memory.get?, if_pos rfl] at hj
          cases hj
      subst hkj
      have hw : w = u := by simpa [Memory.get?] using hk
      subst hw
      congr 1
      refine ih hm.2 hn.2 fun x => ?_
      by_cases hx : k = x
      · subst hx
        rw [Memory.get?_below hm.2 (by omega), Memory.get?_below hn.2 (by omega)]
      · simpa [Memory.get?, hx] using h x

end Sys2Proof.Machine
end

