-- ==== Sys2Proof/Laws/State.lean ====
section
/-! SUPPORT. What each update of the state leaves alone, one lemma per field, so that no later proof unfolds a record update. -/
namespace Sys2Proof.Machine

/-! ### `pc <- next` -/

@[simp] theorem State.advance_a (len : Word) (s : State) : (s.advance len).a = s.a := rfl
@[simp] theorem State.advance_b (len : Word) (s : State) : (s.advance len).b = s.b := rfl
@[simp] theorem State.advance_c (len : Word) (s : State) : (s.advance len).c = s.c := rfl
@[simp] theorem State.advance_d (len : Word) (s : State) : (s.advance len).d = s.d := rfl
@[simp] theorem State.advance_e (len : Word) (s : State) : (s.advance len).e = s.e := rfl
@[simp] theorem State.advance_h (len : Word) (s : State) : (s.advance len).h = s.h := rfl
@[simp] theorem State.advance_l (len : Word) (s : State) : (s.advance len).l = s.l := rfl
@[simp] theorem State.advance_flags (len : Word) (s : State) : (s.advance len).flags = s.flags := rfl
@[simp] theorem State.advance_sp (len : Word) (s : State) : (s.advance len).sp = s.sp := rfl
@[simp] theorem State.advance_ie (len : Word) (s : State) : (s.advance len).ie = s.ie := rfl
@[simp] theorem State.advance_m75 (len : Word) (s : State) : (s.advance len).m75 = s.m75 := rfl
@[simp] theorem State.advance_m65 (len : Word) (s : State) : (s.advance len).m65 = s.m65 := rfl
@[simp] theorem State.advance_m55 (len : Word) (s : State) : (s.advance len).m55 = s.m55 := rfl
@[simp] theorem State.advance_r75 (len : Word) (s : State) : (s.advance len).r75 = s.r75 := rfl
@[simp] theorem State.advance_sod (len : Word) (s : State) : (s.advance len).sod = s.sod := rfl
@[simp] theorem State.advance_halted (len : Word) (s : State) : (s.advance len).halted = s.halted := rfl
@[simp] theorem State.advance_eiShadow (len : Word) (s : State) : (s.advance len).eiShadow = s.eiShadow := rfl
@[simp] theorem State.advance_mem (len : Word) (s : State) : (s.advance len).mem = s.mem := rfl
@[simp] theorem State.advance_params (len : Word) (s : State) : (s.advance len).params = s.params := rfl
@[simp] theorem State.advance_now (len : Word) (s : State) : (s.advance len).now = s.now := rfl
@[simp] theorem State.advance_env (len : Word) (s : State) : (s.advance len).env = s.env := rfl
@[simp] theorem State.advance_answers (len : Word) (s : State) : (s.advance len).answers = s.answers := rfl
@[simp] theorem State.advance_log (len : Word) (s : State) : (s.advance len).log = s.log := rfl
@[simp] theorem State.advance_trapSinceRim (len : Word) (s : State) : (s.advance len).trapSinceRim = s.trapSinceRim := rfl
@[simp] theorem State.advance_draws (len : Word) (s : State) : (s.advance len).draws = s.draws := rfl

@[simp] theorem State.advance_pc (len : Word) (s : State) : (s.advance len).pc = s.pc + len := rfl

/-! ### The record of accesses -/

@[simp] theorem State.record_a (ev : Event) (s : State) : (s.record ev).a = s.a := rfl
@[simp] theorem State.record_b (ev : Event) (s : State) : (s.record ev).b = s.b := rfl
@[simp] theorem State.record_c (ev : Event) (s : State) : (s.record ev).c = s.c := rfl
@[simp] theorem State.record_d (ev : Event) (s : State) : (s.record ev).d = s.d := rfl
@[simp] theorem State.record_e (ev : Event) (s : State) : (s.record ev).e = s.e := rfl
@[simp] theorem State.record_h (ev : Event) (s : State) : (s.record ev).h = s.h := rfl
@[simp] theorem State.record_l (ev : Event) (s : State) : (s.record ev).l = s.l := rfl
@[simp] theorem State.record_flags (ev : Event) (s : State) : (s.record ev).flags = s.flags := rfl
@[simp] theorem State.record_sp (ev : Event) (s : State) : (s.record ev).sp = s.sp := rfl
@[simp] theorem State.record_pc (ev : Event) (s : State) : (s.record ev).pc = s.pc := rfl
@[simp] theorem State.record_ie (ev : Event) (s : State) : (s.record ev).ie = s.ie := rfl
@[simp] theorem State.record_m75 (ev : Event) (s : State) : (s.record ev).m75 = s.m75 := rfl
@[simp] theorem State.record_m65 (ev : Event) (s : State) : (s.record ev).m65 = s.m65 := rfl
@[simp] theorem State.record_m55 (ev : Event) (s : State) : (s.record ev).m55 = s.m55 := rfl
@[simp] theorem State.record_r75 (ev : Event) (s : State) : (s.record ev).r75 = s.r75 := rfl
@[simp] theorem State.record_sod (ev : Event) (s : State) : (s.record ev).sod = s.sod := rfl
@[simp] theorem State.record_halted (ev : Event) (s : State) : (s.record ev).halted = s.halted := rfl
@[simp] theorem State.record_eiShadow (ev : Event) (s : State) : (s.record ev).eiShadow = s.eiShadow := rfl
@[simp] theorem State.record_mem (ev : Event) (s : State) : (s.record ev).mem = s.mem := rfl
@[simp] theorem State.record_params (ev : Event) (s : State) : (s.record ev).params = s.params := rfl
@[simp] theorem State.record_now (ev : Event) (s : State) : (s.record ev).now = s.now := rfl
@[simp] theorem State.record_env (ev : Event) (s : State) : (s.record ev).env = s.env := rfl
@[simp] theorem State.record_answers (ev : Event) (s : State) : (s.record ev).answers = s.answers := rfl
@[simp] theorem State.record_trapSinceRim (ev : Event) (s : State) : (s.record ev).trapSinceRim = s.trapSinceRim := rfl
@[simp] theorem State.record_draws (ev : Event) (s : State) : (s.record ev).draws = s.draws := rfl

@[simp] theorem State.record_log (ev : Event) (s : State) : (s.record ev).log = s.log ++ [ev] := rfl

/-! ### A drawn byte -/

@[simp] theorem State.drawByte_a (s : State) : s.drawByte.2.a = s.a := rfl
@[simp] theorem State.drawByte_b (s : State) : s.drawByte.2.b = s.b := rfl
@[simp] theorem State.drawByte_c (s : State) : s.drawByte.2.c = s.c := rfl
@[simp] theorem State.drawByte_d (s : State) : s.drawByte.2.d = s.d := rfl
@[simp] theorem State.drawByte_e (s : State) : s.drawByte.2.e = s.e := rfl
@[simp] theorem State.drawByte_h (s : State) : s.drawByte.2.h = s.h := rfl
@[simp] theorem State.drawByte_l (s : State) : s.drawByte.2.l = s.l := rfl
@[simp] theorem State.drawByte_flags (s : State) : s.drawByte.2.flags = s.flags := rfl
@[simp] theorem State.drawByte_sp (s : State) : s.drawByte.2.sp = s.sp := rfl
@[simp] theorem State.drawByte_pc (s : State) : s.drawByte.2.pc = s.pc := rfl
@[simp] theorem State.drawByte_ie (s : State) : s.drawByte.2.ie = s.ie := rfl
@[simp] theorem State.drawByte_m75 (s : State) : s.drawByte.2.m75 = s.m75 := rfl
@[simp] theorem State.drawByte_m65 (s : State) : s.drawByte.2.m65 = s.m65 := rfl
@[simp] theorem State.drawByte_m55 (s : State) : s.drawByte.2.m55 = s.m55 := rfl
@[simp] theorem State.drawByte_r75 (s : State) : s.drawByte.2.r75 = s.r75 := rfl
@[simp] theorem State.drawByte_sod (s : State) : s.drawByte.2.sod = s.sod := rfl
@[simp] theorem State.drawByte_halted (s : State) : s.drawByte.2.halted = s.halted := rfl
@[simp] theorem State.drawByte_eiShadow (s : State) : s.drawByte.2.eiShadow = s.eiShadow := rfl
@[simp] theorem State.drawByte_mem (s : State) : s.drawByte.2.mem = s.mem := rfl
@[simp] theorem State.drawByte_params (s : State) : s.drawByte.2.params = s.params := rfl
@[simp] theorem State.drawByte_now (s : State) : s.drawByte.2.now = s.now := rfl
@[simp] theorem State.drawByte_env (s : State) : s.drawByte.2.env = s.env := rfl
@[simp] theorem State.drawByte_answers (s : State) : s.drawByte.2.answers = s.answers := rfl
@[simp] theorem State.drawByte_log (s : State) : s.drawByte.2.log = s.log := rfl
@[simp] theorem State.drawByte_trapSinceRim (s : State) : s.drawByte.2.trapSinceRim = s.trapSinceRim := rfl

@[simp] theorem State.drawByte_draws (s : State) : s.drawByte.2.draws = s.draws + 1 := rfl

/-! ### A drawn bit -/

@[simp] theorem State.drawBit_a (s : State) : s.drawBit.2.a = s.a := rfl
@[simp] theorem State.drawBit_b (s : State) : s.drawBit.2.b = s.b := rfl
@[simp] theorem State.drawBit_c (s : State) : s.drawBit.2.c = s.c := rfl
@[simp] theorem State.drawBit_d (s : State) : s.drawBit.2.d = s.d := rfl
@[simp] theorem State.drawBit_e (s : State) : s.drawBit.2.e = s.e := rfl
@[simp] theorem State.drawBit_h (s : State) : s.drawBit.2.h = s.h := rfl
@[simp] theorem State.drawBit_l (s : State) : s.drawBit.2.l = s.l := rfl
@[simp] theorem State.drawBit_flags (s : State) : s.drawBit.2.flags = s.flags := rfl
@[simp] theorem State.drawBit_sp (s : State) : s.drawBit.2.sp = s.sp := rfl
@[simp] theorem State.drawBit_pc (s : State) : s.drawBit.2.pc = s.pc := rfl
@[simp] theorem State.drawBit_ie (s : State) : s.drawBit.2.ie = s.ie := rfl
@[simp] theorem State.drawBit_m75 (s : State) : s.drawBit.2.m75 = s.m75 := rfl
@[simp] theorem State.drawBit_m65 (s : State) : s.drawBit.2.m65 = s.m65 := rfl
@[simp] theorem State.drawBit_m55 (s : State) : s.drawBit.2.m55 = s.m55 := rfl
@[simp] theorem State.drawBit_r75 (s : State) : s.drawBit.2.r75 = s.r75 := rfl
@[simp] theorem State.drawBit_sod (s : State) : s.drawBit.2.sod = s.sod := rfl
@[simp] theorem State.drawBit_halted (s : State) : s.drawBit.2.halted = s.halted := rfl
@[simp] theorem State.drawBit_eiShadow (s : State) : s.drawBit.2.eiShadow = s.eiShadow := rfl
@[simp] theorem State.drawBit_mem (s : State) : s.drawBit.2.mem = s.mem := rfl
@[simp] theorem State.drawBit_params (s : State) : s.drawBit.2.params = s.params := rfl
@[simp] theorem State.drawBit_now (s : State) : s.drawBit.2.now = s.now := rfl
@[simp] theorem State.drawBit_env (s : State) : s.drawBit.2.env = s.env := rfl
@[simp] theorem State.drawBit_answers (s : State) : s.drawBit.2.answers = s.answers := rfl
@[simp] theorem State.drawBit_log (s : State) : s.drawBit.2.log = s.log := rfl
@[simp] theorem State.drawBit_trapSinceRim (s : State) : s.drawBit.2.trapSinceRim = s.trapSinceRim := rfl

@[simp] theorem State.drawBit_draws (s : State) : s.drawBit.2.draws = s.draws + 1 := rfl

/-! ### A register write -/

@[simp] theorem State.setReg_flags (r : Reg) (v : Byte) (s : State) : (s.setReg r v).flags = s.flags := by cases r <;> rfl
@[simp] theorem State.setReg_sp (r : Reg) (v : Byte) (s : State) : (s.setReg r v).sp = s.sp := by cases r <;> rfl
@[simp] theorem State.setReg_pc (r : Reg) (v : Byte) (s : State) : (s.setReg r v).pc = s.pc := by cases r <;> rfl
@[simp] theorem State.setReg_ie (r : Reg) (v : Byte) (s : State) : (s.setReg r v).ie = s.ie := by cases r <;> rfl
@[simp] theorem State.setReg_m75 (r : Reg) (v : Byte) (s : State) : (s.setReg r v).m75 = s.m75 := by cases r <;> rfl
@[simp] theorem State.setReg_m65 (r : Reg) (v : Byte) (s : State) : (s.setReg r v).m65 = s.m65 := by cases r <;> rfl
@[simp] theorem State.setReg_m55 (r : Reg) (v : Byte) (s : State) : (s.setReg r v).m55 = s.m55 := by cases r <;> rfl
@[simp] theorem State.setReg_r75 (r : Reg) (v : Byte) (s : State) : (s.setReg r v).r75 = s.r75 := by cases r <;> rfl
@[simp] theorem State.setReg_sod (r : Reg) (v : Byte) (s : State) : (s.setReg r v).sod = s.sod := by cases r <;> rfl
@[simp] theorem State.setReg_halted (r : Reg) (v : Byte) (s : State) : (s.setReg r v).halted = s.halted := by cases r <;> rfl
@[simp] theorem State.setReg_eiShadow (r : Reg) (v : Byte) (s : State) : (s.setReg r v).eiShadow = s.eiShadow := by cases r <;> rfl
@[simp] theorem State.setReg_mem (r : Reg) (v : Byte) (s : State) : (s.setReg r v).mem = s.mem := by cases r <;> rfl
@[simp] theorem State.setReg_params (r : Reg) (v : Byte) (s : State) : (s.setReg r v).params = s.params := by cases r <;> rfl
@[simp] theorem State.setReg_now (r : Reg) (v : Byte) (s : State) : (s.setReg r v).now = s.now := by cases r <;> rfl
@[simp] theorem State.setReg_env (r : Reg) (v : Byte) (s : State) : (s.setReg r v).env = s.env := by cases r <;> rfl
@[simp] theorem State.setReg_answers (r : Reg) (v : Byte) (s : State) : (s.setReg r v).answers = s.answers := by cases r <;> rfl
@[simp] theorem State.setReg_log (r : Reg) (v : Byte) (s : State) : (s.setReg r v).log = s.log := by cases r <;> rfl
@[simp] theorem State.setReg_trapSinceRim (r : Reg) (v : Byte) (s : State) : (s.setReg r v).trapSinceRim = s.trapSinceRim := by cases r <;> rfl
@[simp] theorem State.setReg_draws (r : Reg) (v : Byte) (s : State) : (s.setReg r v).draws = s.draws := by cases r <;> rfl

/-! ### A pair write -/

@[simp] theorem State.setPair_a (rp : Pair) (v : Word) (s : State) : (s.setPair rp v).a = s.a := by cases rp <;> rfl
@[simp] theorem State.setPair_flags (rp : Pair) (v : Word) (s : State) : (s.setPair rp v).flags = s.flags := by cases rp <;> rfl
@[simp] theorem State.setPair_pc (rp : Pair) (v : Word) (s : State) : (s.setPair rp v).pc = s.pc := by cases rp <;> rfl
@[simp] theorem State.setPair_ie (rp : Pair) (v : Word) (s : State) : (s.setPair rp v).ie = s.ie := by cases rp <;> rfl
@[simp] theorem State.setPair_m75 (rp : Pair) (v : Word) (s : State) : (s.setPair rp v).m75 = s.m75 := by cases rp <;> rfl
@[simp] theorem State.setPair_m65 (rp : Pair) (v : Word) (s : State) : (s.setPair rp v).m65 = s.m65 := by cases rp <;> rfl
@[simp] theorem State.setPair_m55 (rp : Pair) (v : Word) (s : State) : (s.setPair rp v).m55 = s.m55 := by cases rp <;> rfl
@[simp] theorem State.setPair_r75 (rp : Pair) (v : Word) (s : State) : (s.setPair rp v).r75 = s.r75 := by cases rp <;> rfl
@[simp] theorem State.setPair_sod (rp : Pair) (v : Word) (s : State) : (s.setPair rp v).sod = s.sod := by cases rp <;> rfl
@[simp] theorem State.setPair_halted (rp : Pair) (v : Word) (s : State) : (s.setPair rp v).halted = s.halted := by cases rp <;> rfl
@[simp] theorem State.setPair_eiShadow (rp : Pair) (v : Word) (s : State) : (s.setPair rp v).eiShadow = s.eiShadow := by cases rp <;> rfl
@[simp] theorem State.setPair_mem (rp : Pair) (v : Word) (s : State) : (s.setPair rp v).mem = s.mem := by cases rp <;> rfl
@[simp] theorem State.setPair_params (rp : Pair) (v : Word) (s : State) : (s.setPair rp v).params = s.params := by cases rp <;> rfl
@[simp] theorem State.setPair_now (rp : Pair) (v : Word) (s : State) : (s.setPair rp v).now = s.now := by cases rp <;> rfl
@[simp] theorem State.setPair_env (rp : Pair) (v : Word) (s : State) : (s.setPair rp v).env = s.env := by cases rp <;> rfl
@[simp] theorem State.setPair_answers (rp : Pair) (v : Word) (s : State) : (s.setPair rp v).answers = s.answers := by cases rp <;> rfl
@[simp] theorem State.setPair_log (rp : Pair) (v : Word) (s : State) : (s.setPair rp v).log = s.log := by cases rp <;> rfl
@[simp] theorem State.setPair_trapSinceRim (rp : Pair) (v : Word) (s : State) : (s.setPair rp v).trapSinceRim = s.trapSinceRim := by cases rp <;> rfl
@[simp] theorem State.setPair_draws (rp : Pair) (v : Word) (s : State) : (s.setPair rp v).draws = s.draws := by cases rp <;> rfl

/-! ### The pair a POP writes -/

@[simp] theorem State.setStackPair_sp (rp : StackPair) (v : Word) (s : State) : (s.setStackPair rp v).sp = s.sp := by cases rp <;> rfl
@[simp] theorem State.setStackPair_pc (rp : StackPair) (v : Word) (s : State) : (s.setStackPair rp v).pc = s.pc := by cases rp <;> rfl
@[simp] theorem State.setStackPair_ie (rp : StackPair) (v : Word) (s : State) : (s.setStackPair rp v).ie = s.ie := by cases rp <;> rfl
@[simp] theorem State.setStackPair_m75 (rp : StackPair) (v : Word) (s : State) : (s.setStackPair rp v).m75 = s.m75 := by cases rp <;> rfl
@[simp] theorem State.setStackPair_m65 (rp : StackPair) (v : Word) (s : State) : (s.setStackPair rp v).m65 = s.m65 := by cases rp <;> rfl
@[simp] theorem State.setStackPair_m55 (rp : StackPair) (v : Word) (s : State) : (s.setStackPair rp v).m55 = s.m55 := by cases rp <;> rfl
@[simp] theorem State.setStackPair_r75 (rp : StackPair) (v : Word) (s : State) : (s.setStackPair rp v).r75 = s.r75 := by cases rp <;> rfl
@[simp] theorem State.setStackPair_sod (rp : StackPair) (v : Word) (s : State) : (s.setStackPair rp v).sod = s.sod := by cases rp <;> rfl
@[simp] theorem State.setStackPair_halted (rp : StackPair) (v : Word) (s : State) : (s.setStackPair rp v).halted = s.halted := by cases rp <;> rfl
@[simp] theorem State.setStackPair_eiShadow (rp : StackPair) (v : Word) (s : State) : (s.setStackPair rp v).eiShadow = s.eiShadow := by cases rp <;> rfl
@[simp] theorem State.setStackPair_mem (rp : StackPair) (v : Word) (s : State) : (s.setStackPair rp v).mem = s.mem := by cases rp <;> rfl
@[simp] theorem State.setStackPair_params (rp : StackPair) (v : Word) (s : State) : (s.setStackPair rp v).params = s.params := by cases rp <;> rfl
@[simp] theorem State.setStackPair_now (rp : StackPair) (v : Word) (s : State) : (s.setStackPair rp v).now = s.now := by cases rp <;> rfl
@[simp] theorem State.setStackPair_env (rp : StackPair) (v : Word) (s : State) : (s.setStackPair rp v).env = s.env := by cases rp <;> rfl
@[simp] theorem State.setStackPair_answers (rp : StackPair) (v : Word) (s : State) : (s.setStackPair rp v).answers = s.answers := by cases rp <;> rfl
@[simp] theorem State.setStackPair_log (rp : StackPair) (v : Word) (s : State) : (s.setStackPair rp v).log = s.log := by cases rp <;> rfl
@[simp] theorem State.setStackPair_trapSinceRim (rp : StackPair) (v : Word) (s : State) : (s.setStackPair rp v).trapSinceRim = s.trapSinceRim := by cases rp <;> rfl
@[simp] theorem State.setStackPair_draws (rp : StackPair) (v : Word) (s : State) : (s.setStackPair rp v).draws = s.draws := by cases rp <;> rfl

/-! ### The pair a PUSH reads -/

@[simp] theorem State.stackPairValue_a (rp : StackPair) (s : State) : (s.stackPairValue rp).2.a = s.a := by cases rp <;> rfl
@[simp] theorem State.stackPairValue_b (rp : StackPair) (s : State) : (s.stackPairValue rp).2.b = s.b := by cases rp <;> rfl
@[simp] theorem State.stackPairValue_c (rp : StackPair) (s : State) : (s.stackPairValue rp).2.c = s.c := by cases rp <;> rfl
@[simp] theorem State.stackPairValue_d (rp : StackPair) (s : State) : (s.stackPairValue rp).2.d = s.d := by cases rp <;> rfl
@[simp] theorem State.stackPairValue_e (rp : StackPair) (s : State) : (s.stackPairValue rp).2.e = s.e := by cases rp <;> rfl
@[simp] theorem State.stackPairValue_h (rp : StackPair) (s : State) : (s.stackPairValue rp).2.h = s.h := by cases rp <;> rfl
@[simp] theorem State.stackPairValue_l (rp : StackPair) (s : State) : (s.stackPairValue rp).2.l = s.l := by cases rp <;> rfl
@[simp] theorem State.stackPairValue_flags (rp : StackPair) (s : State) : (s.stackPairValue rp).2.flags = s.flags := by cases rp <;> rfl
@[simp] theorem State.stackPairValue_sp (rp : StackPair) (s : State) : (s.stackPairValue rp).2.sp = s.sp := by cases rp <;> rfl
@[simp] theorem State.stackPairValue_pc (rp : StackPair) (s : State) : (s.stackPairValue rp).2.pc = s.pc := by cases rp <;> rfl
@[simp] theorem State.stackPairValue_ie (rp : StackPair) (s : State) : (s.stackPairValue rp).2.ie = s.ie := by cases rp <;> rfl
@[simp] theorem State.stackPairValue_m75 (rp : StackPair) (s : State) : (s.stackPairValue rp).2.m75 = s.m75 := by cases rp <;> rfl
@[simp] theorem State.stackPairValue_m65 (rp : StackPair) (s : State) : (s.stackPairValue rp).2.m65 = s.m65 := by cases rp <;> rfl
@[simp] theorem State.stackPairValue_m55 (rp : StackPair) (s : State) : (s.stackPairValue rp).2.m55 = s.m55 := by cases rp <;> rfl
@[simp] theorem State.stackPairValue_r75 (rp : StackPair) (s : State) : (s.stackPairValue rp).2.r75 = s.r75 := by cases rp <;> rfl
@[simp] theorem State.stackPairValue_sod (rp : StackPair) (s : State) : (s.stackPairValue rp).2.sod = s.sod := by cases rp <;> rfl
@[simp] theorem State.stackPairValue_halted (rp : StackPair) (s : State) : (s.stackPairValue rp).2.halted = s.halted := by cases rp <;> rfl
@[simp] theorem State.stackPairValue_eiShadow (rp : StackPair) (s : State) : (s.stackPairValue rp).2.eiShadow = s.eiShadow := by cases rp <;> rfl
@[simp] theorem State.stackPairValue_mem (rp : StackPair) (s : State) : (s.stackPairValue rp).2.mem = s.mem := by cases rp <;> rfl
@[simp] theorem State.stackPairValue_params (rp : StackPair) (s : State) : (s.stackPairValue rp).2.params = s.params := by cases rp <;> rfl
@[simp] theorem State.stackPairValue_now (rp : StackPair) (s : State) : (s.stackPairValue rp).2.now = s.now := by cases rp <;> rfl
@[simp] theorem State.stackPairValue_env (rp : StackPair) (s : State) : (s.stackPairValue rp).2.env = s.env := by cases rp <;> rfl
@[simp] theorem State.stackPairValue_answers (rp : StackPair) (s : State) : (s.stackPairValue rp).2.answers = s.answers := by cases rp <;> rfl
@[simp] theorem State.stackPairValue_log (rp : StackPair) (s : State) : (s.stackPairValue rp).2.log = s.log := by cases rp <;> rfl
@[simp] theorem State.stackPairValue_trapSinceRim (rp : StackPair) (s : State) : (s.stackPairValue rp).2.trapSinceRim = s.trapSinceRim := by cases rp <;> rfl

/-! ### Accumulator sum -/

@[simp] theorem State.accAdd_b (v : Byte) (cin : Bool) (s : State) : (s.accAdd v cin).b = s.b := rfl
@[simp] theorem State.accAdd_c (v : Byte) (cin : Bool) (s : State) : (s.accAdd v cin).c = s.c := rfl
@[simp] theorem State.accAdd_d (v : Byte) (cin : Bool) (s : State) : (s.accAdd v cin).d = s.d := rfl
@[simp] theorem State.accAdd_e (v : Byte) (cin : Bool) (s : State) : (s.accAdd v cin).e = s.e := rfl
@[simp] theorem State.accAdd_h (v : Byte) (cin : Bool) (s : State) : (s.accAdd v cin).h = s.h := rfl
@[simp] theorem State.accAdd_l (v : Byte) (cin : Bool) (s : State) : (s.accAdd v cin).l = s.l := rfl
@[simp] theorem State.accAdd_sp (v : Byte) (cin : Bool) (s : State) : (s.accAdd v cin).sp = s.sp := rfl
@[simp] theorem State.accAdd_pc (v : Byte) (cin : Bool) (s : State) : (s.accAdd v cin).pc = s.pc := rfl
@[simp] theorem State.accAdd_ie (v : Byte) (cin : Bool) (s : State) : (s.accAdd v cin).ie = s.ie := rfl
@[simp] theorem State.accAdd_m75 (v : Byte) (cin : Bool) (s : State) : (s.accAdd v cin).m75 = s.m75 := rfl
@[simp] theorem State.accAdd_m65 (v : Byte) (cin : Bool) (s : State) : (s.accAdd v cin).m65 = s.m65 := rfl
@[simp] theorem State.accAdd_m55 (v : Byte) (cin : Bool) (s : State) : (s.accAdd v cin).m55 = s.m55 := rfl
@[simp] theorem State.accAdd_r75 (v : Byte) (cin : Bool) (s : State) : (s.accAdd v cin).r75 = s.r75 := rfl
@[simp] theorem State.accAdd_sod (v : Byte) (cin : Bool) (s : State) : (s.accAdd v cin).sod = s.sod := rfl
@[simp] theorem State.accAdd_halted (v : Byte) (cin : Bool) (s : State) : (s.accAdd v cin).halted = s.halted := rfl
@[simp] theorem State.accAdd_eiShadow (v : Byte) (cin : Bool) (s : State) : (s.accAdd v cin).eiShadow = s.eiShadow := rfl
@[simp] theorem State.accAdd_mem (v : Byte) (cin : Bool) (s : State) : (s.accAdd v cin).mem = s.mem := rfl
@[simp] theorem State.accAdd_params (v : Byte) (cin : Bool) (s : State) : (s.accAdd v cin).params = s.params := rfl
@[simp] theorem State.accAdd_now (v : Byte) (cin : Bool) (s : State) : (s.accAdd v cin).now = s.now := rfl
@[simp] theorem State.accAdd_env (v : Byte) (cin : Bool) (s : State) : (s.accAdd v cin).env = s.env := rfl
@[simp] theorem State.accAdd_answers (v : Byte) (cin : Bool) (s : State) : (s.accAdd v cin).answers = s.answers := rfl
@[simp] theorem State.accAdd_log (v : Byte) (cin : Bool) (s : State) : (s.accAdd v cin).log = s.log := rfl
@[simp] theorem State.accAdd_trapSinceRim (v : Byte) (cin : Bool) (s : State) : (s.accAdd v cin).trapSinceRim = s.trapSinceRim := rfl
@[simp] theorem State.accAdd_draws (v : Byte) (cin : Bool) (s : State) : (s.accAdd v cin).draws = s.draws := rfl

/-! ### Accumulator difference -/

@[simp] theorem State.accSub_b (v : Byte) (bin : Bool) (s : State) : (s.accSub v bin).b = s.b := rfl
@[simp] theorem State.accSub_c (v : Byte) (bin : Bool) (s : State) : (s.accSub v bin).c = s.c := rfl
@[simp] theorem State.accSub_d (v : Byte) (bin : Bool) (s : State) : (s.accSub v bin).d = s.d := rfl
@[simp] theorem State.accSub_e (v : Byte) (bin : Bool) (s : State) : (s.accSub v bin).e = s.e := rfl
@[simp] theorem State.accSub_h (v : Byte) (bin : Bool) (s : State) : (s.accSub v bin).h = s.h := rfl
@[simp] theorem State.accSub_l (v : Byte) (bin : Bool) (s : State) : (s.accSub v bin).l = s.l := rfl
@[simp] theorem State.accSub_sp (v : Byte) (bin : Bool) (s : State) : (s.accSub v bin).sp = s.sp := rfl
@[simp] theorem State.accSub_pc (v : Byte) (bin : Bool) (s : State) : (s.accSub v bin).pc = s.pc := rfl
@[simp] theorem State.accSub_ie (v : Byte) (bin : Bool) (s : State) : (s.accSub v bin).ie = s.ie := rfl
@[simp] theorem State.accSub_m75 (v : Byte) (bin : Bool) (s : State) : (s.accSub v bin).m75 = s.m75 := rfl
@[simp] theorem State.accSub_m65 (v : Byte) (bin : Bool) (s : State) : (s.accSub v bin).m65 = s.m65 := rfl
@[simp] theorem State.accSub_m55 (v : Byte) (bin : Bool) (s : State) : (s.accSub v bin).m55 = s.m55 := rfl
@[simp] theorem State.accSub_r75 (v : Byte) (bin : Bool) (s : State) : (s.accSub v bin).r75 = s.r75 := rfl
@[simp] theorem State.accSub_sod (v : Byte) (bin : Bool) (s : State) : (s.accSub v bin).sod = s.sod := rfl
@[simp] theorem State.accSub_halted (v : Byte) (bin : Bool) (s : State) : (s.accSub v bin).halted = s.halted := rfl
@[simp] theorem State.accSub_eiShadow (v : Byte) (bin : Bool) (s : State) : (s.accSub v bin).eiShadow = s.eiShadow := rfl
@[simp] theorem State.accSub_mem (v : Byte) (bin : Bool) (s : State) : (s.accSub v bin).mem = s.mem := rfl
@[simp] theorem State.accSub_params (v : Byte) (bin : Bool) (s : State) : (s.accSub v bin).params = s.params := rfl
@[simp] theorem State.accSub_now (v : Byte) (bin : Bool) (s : State) : (s.accSub v bin).now = s.now := rfl
@[simp] theorem State.accSub_env (v : Byte) (bin : Bool) (s : State) : (s.accSub v bin).env = s.env := rfl
@[simp] theorem State.accSub_answers (v : Byte) (bin : Bool) (s : State) : (s.accSub v bin).answers = s.answers := rfl
@[simp] theorem State.accSub_log (v : Byte) (bin : Bool) (s : State) : (s.accSub v bin).log = s.log := rfl
@[simp] theorem State.accSub_trapSinceRim (v : Byte) (bin : Bool) (s : State) : (s.accSub v bin).trapSinceRim = s.trapSinceRim := rfl
@[simp] theorem State.accSub_draws (v : Byte) (bin : Bool) (s : State) : (s.accSub v bin).draws = s.draws := rfl

/-! ### Comparison -/

@[simp] theorem State.accCompare_a (v : Byte) (s : State) : (s.accCompare v).a = s.a := rfl
@[simp] theorem State.accCompare_b (v : Byte) (s : State) : (s.accCompare v).b = s.b := rfl
@[simp] theorem State.accCompare_c (v : Byte) (s : State) : (s.accCompare v).c = s.c := rfl
@[simp] theorem State.accCompare_d (v : Byte) (s : State) : (s.accCompare v).d = s.d := rfl
@[simp] theorem State.accCompare_e (v : Byte) (s : State) : (s.accCompare v).e = s.e := rfl
@[simp] theorem State.accCompare_h (v : Byte) (s : State) : (s.accCompare v).h = s.h := rfl
@[simp] theorem State.accCompare_l (v : Byte) (s : State) : (s.accCompare v).l = s.l := rfl
@[simp] theorem State.accCompare_sp (v : Byte) (s : State) : (s.accCompare v).sp = s.sp := rfl
@[simp] theorem State.accCompare_pc (v : Byte) (s : State) : (s.accCompare v).pc = s.pc := rfl
@[simp] theorem State.accCompare_ie (v : Byte) (s : State) : (s.accCompare v).ie = s.ie := rfl
@[simp] theorem State.accCompare_m75 (v : Byte) (s : State) : (s.accCompare v).m75 = s.m75 := rfl
@[simp] theorem State.accCompare_m65 (v : Byte) (s : State) : (s.accCompare v).m65 = s.m65 := rfl
@[simp] theorem State.accCompare_m55 (v : Byte) (s : State) : (s.accCompare v).m55 = s.m55 := rfl
@[simp] theorem State.accCompare_r75 (v : Byte) (s : State) : (s.accCompare v).r75 = s.r75 := rfl
@[simp] theorem State.accCompare_sod (v : Byte) (s : State) : (s.accCompare v).sod = s.sod := rfl
@[simp] theorem State.accCompare_halted (v : Byte) (s : State) : (s.accCompare v).halted = s.halted := rfl
@[simp] theorem State.accCompare_eiShadow (v : Byte) (s : State) : (s.accCompare v).eiShadow = s.eiShadow := rfl
@[simp] theorem State.accCompare_mem (v : Byte) (s : State) : (s.accCompare v).mem = s.mem := rfl
@[simp] theorem State.accCompare_params (v : Byte) (s : State) : (s.accCompare v).params = s.params := rfl
@[simp] theorem State.accCompare_now (v : Byte) (s : State) : (s.accCompare v).now = s.now := rfl
@[simp] theorem State.accCompare_env (v : Byte) (s : State) : (s.accCompare v).env = s.env := rfl
@[simp] theorem State.accCompare_answers (v : Byte) (s : State) : (s.accCompare v).answers = s.answers := rfl
@[simp] theorem State.accCompare_log (v : Byte) (s : State) : (s.accCompare v).log = s.log := rfl
@[simp] theorem State.accCompare_trapSinceRim (v : Byte) (s : State) : (s.accCompare v).trapSinceRim = s.trapSinceRim := rfl
@[simp] theorem State.accCompare_draws (v : Byte) (s : State) : (s.accCompare v).draws = s.draws := rfl

/-! ### Bitwise result -/

@[simp] theorem State.accLogic_b (r : Byte) (ac : Bool) (s : State) : (s.accLogic r ac).b = s.b := rfl
@[simp] theorem State.accLogic_c (r : Byte) (ac : Bool) (s : State) : (s.accLogic r ac).c = s.c := rfl
@[simp] theorem State.accLogic_d (r : Byte) (ac : Bool) (s : State) : (s.accLogic r ac).d = s.d := rfl
@[simp] theorem State.accLogic_e (r : Byte) (ac : Bool) (s : State) : (s.accLogic r ac).e = s.e := rfl
@[simp] theorem State.accLogic_h (r : Byte) (ac : Bool) (s : State) : (s.accLogic r ac).h = s.h := rfl
@[simp] theorem State.accLogic_l (r : Byte) (ac : Bool) (s : State) : (s.accLogic r ac).l = s.l := rfl
@[simp] theorem State.accLogic_sp (r : Byte) (ac : Bool) (s : State) : (s.accLogic r ac).sp = s.sp := rfl
@[simp] theorem State.accLogic_pc (r : Byte) (ac : Bool) (s : State) : (s.accLogic r ac).pc = s.pc := rfl
@[simp] theorem State.accLogic_ie (r : Byte) (ac : Bool) (s : State) : (s.accLogic r ac).ie = s.ie := rfl
@[simp] theorem State.accLogic_m75 (r : Byte) (ac : Bool) (s : State) : (s.accLogic r ac).m75 = s.m75 := rfl
@[simp] theorem State.accLogic_m65 (r : Byte) (ac : Bool) (s : State) : (s.accLogic r ac).m65 = s.m65 := rfl
@[simp] theorem State.accLogic_m55 (r : Byte) (ac : Bool) (s : State) : (s.accLogic r ac).m55 = s.m55 := rfl
@[simp] theorem State.accLogic_r75 (r : Byte) (ac : Bool) (s : State) : (s.accLogic r ac).r75 = s.r75 := rfl
@[simp] theorem State.accLogic_sod (r : Byte) (ac : Bool) (s : State) : (s.accLogic r ac).sod = s.sod := rfl
@[simp] theorem State.accLogic_halted (r : Byte) (ac : Bool) (s : State) : (s.accLogic r ac).halted = s.halted := rfl
@[simp] theorem State.accLogic_eiShadow (r : Byte) (ac : Bool) (s : State) : (s.accLogic r ac).eiShadow = s.eiShadow := rfl
@[simp] theorem State.accLogic_mem (r : Byte) (ac : Bool) (s : State) : (s.accLogic r ac).mem = s.mem := rfl
@[simp] theorem State.accLogic_params (r : Byte) (ac : Bool) (s : State) : (s.accLogic r ac).params = s.params := rfl
@[simp] theorem State.accLogic_now (r : Byte) (ac : Bool) (s : State) : (s.accLogic r ac).now = s.now := rfl
@[simp] theorem State.accLogic_env (r : Byte) (ac : Bool) (s : State) : (s.accLogic r ac).env = s.env := rfl
@[simp] theorem State.accLogic_answers (r : Byte) (ac : Bool) (s : State) : (s.accLogic r ac).answers = s.answers := rfl
@[simp] theorem State.accLogic_log (r : Byte) (ac : Bool) (s : State) : (s.accLogic r ac).log = s.log := rfl
@[simp] theorem State.accLogic_trapSinceRim (r : Byte) (ac : Bool) (s : State) : (s.accLogic r ac).trapSinceRim = s.trapSinceRim := rfl
@[simp] theorem State.accLogic_draws (r : Byte) (ac : Bool) (s : State) : (s.accLogic r ac).draws = s.draws := rfl

/-! ### Rotate -/

@[simp] theorem State.accRotate_b (r : Byte) (cy : Bool) (s : State) : (s.accRotate r cy).b = s.b := rfl
@[simp] theorem State.accRotate_c (r : Byte) (cy : Bool) (s : State) : (s.accRotate r cy).c = s.c := rfl
@[simp] theorem State.accRotate_d (r : Byte) (cy : Bool) (s : State) : (s.accRotate r cy).d = s.d := rfl
@[simp] theorem State.accRotate_e (r : Byte) (cy : Bool) (s : State) : (s.accRotate r cy).e = s.e := rfl
@[simp] theorem State.accRotate_h (r : Byte) (cy : Bool) (s : State) : (s.accRotate r cy).h = s.h := rfl
@[simp] theorem State.accRotate_l (r : Byte) (cy : Bool) (s : State) : (s.accRotate r cy).l = s.l := rfl
@[simp] theorem State.accRotate_sp (r : Byte) (cy : Bool) (s : State) : (s.accRotate r cy).sp = s.sp := rfl
@[simp] theorem State.accRotate_pc (r : Byte) (cy : Bool) (s : State) : (s.accRotate r cy).pc = s.pc := rfl
@[simp] theorem State.accRotate_ie (r : Byte) (cy : Bool) (s : State) : (s.accRotate r cy).ie = s.ie := rfl
@[simp] theorem State.accRotate_m75 (r : Byte) (cy : Bool) (s : State) : (s.accRotate r cy).m75 = s.m75 := rfl
@[simp] theorem State.accRotate_m65 (r : Byte) (cy : Bool) (s : State) : (s.accRotate r cy).m65 = s.m65 := rfl
@[simp] theorem State.accRotate_m55 (r : Byte) (cy : Bool) (s : State) : (s.accRotate r cy).m55 = s.m55 := rfl
@[simp] theorem State.accRotate_r75 (r : Byte) (cy : Bool) (s : State) : (s.accRotate r cy).r75 = s.r75 := rfl
@[simp] theorem State.accRotate_sod (r : Byte) (cy : Bool) (s : State) : (s.accRotate r cy).sod = s.sod := rfl
@[simp] theorem State.accRotate_halted (r : Byte) (cy : Bool) (s : State) : (s.accRotate r cy).halted = s.halted := rfl
@[simp] theorem State.accRotate_eiShadow (r : Byte) (cy : Bool) (s : State) : (s.accRotate r cy).eiShadow = s.eiShadow := rfl
@[simp] theorem State.accRotate_mem (r : Byte) (cy : Bool) (s : State) : (s.accRotate r cy).mem = s.mem := rfl
@[simp] theorem State.accRotate_params (r : Byte) (cy : Bool) (s : State) : (s.accRotate r cy).params = s.params := rfl
@[simp] theorem State.accRotate_now (r : Byte) (cy : Bool) (s : State) : (s.accRotate r cy).now = s.now := rfl
@[simp] theorem State.accRotate_env (r : Byte) (cy : Bool) (s : State) : (s.accRotate r cy).env = s.env := rfl
@[simp] theorem State.accRotate_answers (r : Byte) (cy : Bool) (s : State) : (s.accRotate r cy).answers = s.answers := rfl
@[simp] theorem State.accRotate_log (r : Byte) (cy : Bool) (s : State) : (s.accRotate r cy).log = s.log := rfl
@[simp] theorem State.accRotate_trapSinceRim (r : Byte) (cy : Bool) (s : State) : (s.accRotate r cy).trapSinceRim = s.trapSinceRim := rfl
@[simp] theorem State.accRotate_draws (r : Byte) (cy : Bool) (s : State) : (s.accRotate r cy).draws = s.draws := rfl

/-! ### The start of a boundary -/

@[simp] theorem State.sample_a (s : State) : s.sample.a = s.a := rfl
@[simp] theorem State.sample_b (s : State) : s.sample.b = s.b := rfl
@[simp] theorem State.sample_c (s : State) : s.sample.c = s.c := rfl
@[simp] theorem State.sample_d (s : State) : s.sample.d = s.d := rfl
@[simp] theorem State.sample_e (s : State) : s.sample.e = s.e := rfl
@[simp] theorem State.sample_h (s : State) : s.sample.h = s.h := rfl
@[simp] theorem State.sample_l (s : State) : s.sample.l = s.l := rfl
@[simp] theorem State.sample_flags (s : State) : s.sample.flags = s.flags := rfl
@[simp] theorem State.sample_sp (s : State) : s.sample.sp = s.sp := rfl
@[simp] theorem State.sample_pc (s : State) : s.sample.pc = s.pc := rfl
@[simp] theorem State.sample_ie (s : State) : s.sample.ie = s.ie := rfl
@[simp] theorem State.sample_m75 (s : State) : s.sample.m75 = s.m75 := rfl
@[simp] theorem State.sample_m65 (s : State) : s.sample.m65 = s.m65 := rfl
@[simp] theorem State.sample_m55 (s : State) : s.sample.m55 = s.m55 := rfl
@[simp] theorem State.sample_sod (s : State) : s.sample.sod = s.sod := rfl
@[simp] theorem State.sample_halted (s : State) : s.sample.halted = s.halted := rfl
@[simp] theorem State.sample_eiShadow (s : State) : s.sample.eiShadow = s.eiShadow := rfl
@[simp] theorem State.sample_mem (s : State) : s.sample.mem = s.mem := rfl
@[simp] theorem State.sample_params (s : State) : s.sample.params = s.params := rfl
@[simp] theorem State.sample_answers (s : State) : s.sample.answers = s.answers := rfl
@[simp] theorem State.sample_log (s : State) : s.sample.log = s.log := rfl
@[simp] theorem State.sample_trapSinceRim (s : State) : s.sample.trapSinceRim = s.trapSinceRim := rfl
@[simp] theorem State.sample_draws (s : State) : s.sample.draws = s.draws := rfl

end Sys2Proof.Machine
end

