-- ==== Sys2Proof/Laws/Ops.lean ====
section
/-! SUPPORT. What the accesses, the stack operations and the fetch can do: what each leaves alone, field by field, and for each one lemma that says all of its outcomes. -/
namespace Sys2Proof.Machine

/-! ### A device answer -/

@[simp] theorem State.envAnswer_a (s : State) : s.envAnswer.2.a = s.a := by unfold State.envAnswer; split <;> rfl
@[simp] theorem State.envAnswer_b (s : State) : s.envAnswer.2.b = s.b := by unfold State.envAnswer; split <;> rfl
@[simp] theorem State.envAnswer_c (s : State) : s.envAnswer.2.c = s.c := by unfold State.envAnswer; split <;> rfl
@[simp] theorem State.envAnswer_d (s : State) : s.envAnswer.2.d = s.d := by unfold State.envAnswer; split <;> rfl
@[simp] theorem State.envAnswer_e (s : State) : s.envAnswer.2.e = s.e := by unfold State.envAnswer; split <;> rfl
@[simp] theorem State.envAnswer_h (s : State) : s.envAnswer.2.h = s.h := by unfold State.envAnswer; split <;> rfl
@[simp] theorem State.envAnswer_l (s : State) : s.envAnswer.2.l = s.l := by unfold State.envAnswer; split <;> rfl
@[simp] theorem State.envAnswer_flags (s : State) : s.envAnswer.2.flags = s.flags := by unfold State.envAnswer; split <;> rfl
@[simp] theorem State.envAnswer_sp (s : State) : s.envAnswer.2.sp = s.sp := by unfold State.envAnswer; split <;> rfl
@[simp] theorem State.envAnswer_pc (s : State) : s.envAnswer.2.pc = s.pc := by unfold State.envAnswer; split <;> rfl
@[simp] theorem State.envAnswer_ie (s : State) : s.envAnswer.2.ie = s.ie := by unfold State.envAnswer; split <;> rfl
@[simp] theorem State.envAnswer_m75 (s : State) : s.envAnswer.2.m75 = s.m75 := by unfold State.envAnswer; split <;> rfl
@[simp] theorem State.envAnswer_m65 (s : State) : s.envAnswer.2.m65 = s.m65 := by unfold State.envAnswer; split <;> rfl
@[simp] theorem State.envAnswer_m55 (s : State) : s.envAnswer.2.m55 = s.m55 := by unfold State.envAnswer; split <;> rfl
@[simp] theorem State.envAnswer_r75 (s : State) : s.envAnswer.2.r75 = s.r75 := by unfold State.envAnswer; split <;> rfl
@[simp] theorem State.envAnswer_sod (s : State) : s.envAnswer.2.sod = s.sod := by unfold State.envAnswer; split <;> rfl
@[simp] theorem State.envAnswer_halted (s : State) : s.envAnswer.2.halted = s.halted := by unfold State.envAnswer; split <;> rfl
@[simp] theorem State.envAnswer_eiShadow (s : State) : s.envAnswer.2.eiShadow = s.eiShadow := by unfold State.envAnswer; split <;> rfl
@[simp] theorem State.envAnswer_mem (s : State) : s.envAnswer.2.mem = s.mem := by unfold State.envAnswer; split <;> rfl
@[simp] theorem State.envAnswer_params (s : State) : s.envAnswer.2.params = s.params := by unfold State.envAnswer; split <;> rfl
@[simp] theorem State.envAnswer_now (s : State) : s.envAnswer.2.now = s.now := by unfold State.envAnswer; split <;> rfl
@[simp] theorem State.envAnswer_env (s : State) : s.envAnswer.2.env = s.env := by unfold State.envAnswer; split <;> rfl
@[simp] theorem State.envAnswer_log (s : State) : s.envAnswer.2.log = s.log := by unfold State.envAnswer; split <;> rfl
@[simp] theorem State.envAnswer_trapSinceRim (s : State) : s.envAnswer.2.trapSinceRim = s.trapSinceRim := by unfold State.envAnswer; split <;> rfl

/-! ### Memory read -/

@[simp] theorem State.memRead_a (addr : Word) (s : State) : (s.memRead addr).2.a = s.a := by unfold State.memRead; split <;> (try split) <;> simp
@[simp] theorem State.memRead_b (addr : Word) (s : State) : (s.memRead addr).2.b = s.b := by unfold State.memRead; split <;> (try split) <;> simp
@[simp] theorem State.memRead_c (addr : Word) (s : State) : (s.memRead addr).2.c = s.c := by unfold State.memRead; split <;> (try split) <;> simp
@[simp] theorem State.memRead_d (addr : Word) (s : State) : (s.memRead addr).2.d = s.d := by unfold State.memRead; split <;> (try split) <;> simp
@[simp] theorem State.memRead_e (addr : Word) (s : State) : (s.memRead addr).2.e = s.e := by unfold State.memRead; split <;> (try split) <;> simp
@[simp] theorem State.memRead_h (addr : Word) (s : State) : (s.memRead addr).2.h = s.h := by unfold State.memRead; split <;> (try split) <;> simp
@[simp] theorem State.memRead_l (addr : Word) (s : State) : (s.memRead addr).2.l = s.l := by unfold State.memRead; split <;> (try split) <;> simp
@[simp] theorem State.memRead_flags (addr : Word) (s : State) : (s.memRead addr).2.flags = s.flags := by unfold State.memRead; split <;> (try split) <;> simp
@[simp] theorem State.memRead_sp (addr : Word) (s : State) : (s.memRead addr).2.sp = s.sp := by unfold State.memRead; split <;> (try split) <;> simp
@[simp] theorem State.memRead_pc (addr : Word) (s : State) : (s.memRead addr).2.pc = s.pc := by unfold State.memRead; split <;> (try split) <;> simp
@[simp] theorem State.memRead_ie (addr : Word) (s : State) : (s.memRead addr).2.ie = s.ie := by unfold State.memRead; split <;> (try split) <;> simp
@[simp] theorem State.memRead_m75 (addr : Word) (s : State) : (s.memRead addr).2.m75 = s.m75 := by unfold State.memRead; split <;> (try split) <;> simp
@[simp] theorem State.memRead_m65 (addr : Word) (s : State) : (s.memRead addr).2.m65 = s.m65 := by unfold State.memRead; split <;> (try split) <;> simp
@[simp] theorem State.memRead_m55 (addr : Word) (s : State) : (s.memRead addr).2.m55 = s.m55 := by unfold State.memRead; split <;> (try split) <;> simp
@[simp] theorem State.memRead_r75 (addr : Word) (s : State) : (s.memRead addr).2.r75 = s.r75 := by unfold State.memRead; split <;> (try split) <;> simp
@[simp] theorem State.memRead_sod (addr : Word) (s : State) : (s.memRead addr).2.sod = s.sod := by unfold State.memRead; split <;> (try split) <;> simp
@[simp] theorem State.memRead_halted (addr : Word) (s : State) : (s.memRead addr).2.halted = s.halted := by unfold State.memRead; split <;> (try split) <;> simp
@[simp] theorem State.memRead_eiShadow (addr : Word) (s : State) : (s.memRead addr).2.eiShadow = s.eiShadow := by unfold State.memRead; split <;> (try split) <;> simp
@[simp] theorem State.memRead_mem (addr : Word) (s : State) : (s.memRead addr).2.mem = s.mem := by unfold State.memRead; split <;> (try split) <;> simp
@[simp] theorem State.memRead_params (addr : Word) (s : State) : (s.memRead addr).2.params = s.params := by unfold State.memRead; split <;> (try split) <;> simp
@[simp] theorem State.memRead_now (addr : Word) (s : State) : (s.memRead addr).2.now = s.now := by unfold State.memRead; split <;> (try split) <;> simp
@[simp] theorem State.memRead_env (addr : Word) (s : State) : (s.memRead addr).2.env = s.env := by unfold State.memRead; split <;> (try split) <;> simp
@[simp] theorem State.memRead_trapSinceRim (addr : Word) (s : State) : (s.memRead addr).2.trapSinceRim = s.trapSinceRim := by unfold State.memRead; split <;> (try split) <;> simp

/-! ### Memory write -/

@[simp] theorem State.memWrite_a (addr : Word) (v : Byte) (s : State) : (s.memWrite addr v).a = s.a := by unfold State.memWrite; split <;> simp
@[simp] theorem State.memWrite_b (addr : Word) (v : Byte) (s : State) : (s.memWrite addr v).b = s.b := by unfold State.memWrite; split <;> simp
@[simp] theorem State.memWrite_c (addr : Word) (v : Byte) (s : State) : (s.memWrite addr v).c = s.c := by unfold State.memWrite; split <;> simp
@[simp] theorem State.memWrite_d (addr : Word) (v : Byte) (s : State) : (s.memWrite addr v).d = s.d := by unfold State.memWrite; split <;> simp
@[simp] theorem State.memWrite_e (addr : Word) (v : Byte) (s : State) : (s.memWrite addr v).e = s.e := by unfold State.memWrite; split <;> simp
@[simp] theorem State.memWrite_h (addr : Word) (v : Byte) (s : State) : (s.memWrite addr v).h = s.h := by unfold State.memWrite; split <;> simp
@[simp] theorem State.memWrite_l (addr : Word) (v : Byte) (s : State) : (s.memWrite addr v).l = s.l := by unfold State.memWrite; split <;> simp
@[simp] theorem State.memWrite_flags (addr : Word) (v : Byte) (s : State) : (s.memWrite addr v).flags = s.flags := by unfold State.memWrite; split <;> simp
@[simp] theorem State.memWrite_sp (addr : Word) (v : Byte) (s : State) : (s.memWrite addr v).sp = s.sp := by unfold State.memWrite; split <;> simp
@[simp] theorem State.memWrite_pc (addr : Word) (v : Byte) (s : State) : (s.memWrite addr v).pc = s.pc := by unfold State.memWrite; split <;> simp
@[simp] theorem State.memWrite_ie (addr : Word) (v : Byte) (s : State) : (s.memWrite addr v).ie = s.ie := by unfold State.memWrite; split <;> simp
@[simp] theorem State.memWrite_m75 (addr : Word) (v : Byte) (s : State) : (s.memWrite addr v).m75 = s.m75 := by unfold State.memWrite; split <;> simp
@[simp] theorem State.memWrite_m65 (addr : Word) (v : Byte) (s : State) : (s.memWrite addr v).m65 = s.m65 := by unfold State.memWrite; split <;> simp
@[simp] theorem State.memWrite_m55 (addr : Word) (v : Byte) (s : State) : (s.memWrite addr v).m55 = s.m55 := by unfold State.memWrite; split <;> simp
@[simp] theorem State.memWrite_r75 (addr : Word) (v : Byte) (s : State) : (s.memWrite addr v).r75 = s.r75 := by unfold State.memWrite; split <;> simp
@[simp] theorem State.memWrite_sod (addr : Word) (v : Byte) (s : State) : (s.memWrite addr v).sod = s.sod := by unfold State.memWrite; split <;> simp
@[simp] theorem State.memWrite_halted (addr : Word) (v : Byte) (s : State) : (s.memWrite addr v).halted = s.halted := by unfold State.memWrite; split <;> simp
@[simp] theorem State.memWrite_eiShadow (addr : Word) (v : Byte) (s : State) : (s.memWrite addr v).eiShadow = s.eiShadow := by unfold State.memWrite; split <;> simp
@[simp] theorem State.memWrite_params (addr : Word) (v : Byte) (s : State) : (s.memWrite addr v).params = s.params := by unfold State.memWrite; split <;> simp
@[simp] theorem State.memWrite_now (addr : Word) (v : Byte) (s : State) : (s.memWrite addr v).now = s.now := by unfold State.memWrite; split <;> simp
@[simp] theorem State.memWrite_env (addr : Word) (v : Byte) (s : State) : (s.memWrite addr v).env = s.env := by unfold State.memWrite; split <;> simp
@[simp] theorem State.memWrite_answers (addr : Word) (v : Byte) (s : State) : (s.memWrite addr v).answers = s.answers := by unfold State.memWrite; split <;> simp
@[simp] theorem State.memWrite_trapSinceRim (addr : Word) (v : Byte) (s : State) : (s.memWrite addr v).trapSinceRim = s.trapSinceRim := by unfold State.memWrite; split <;> simp
@[simp] theorem State.memWrite_draws (addr : Word) (v : Byte) (s : State) : (s.memWrite addr v).draws = s.draws := by unfold State.memWrite; split <;> simp

/-! ### Port read -/

@[simp] theorem State.ioRead_a (port : Byte) (s : State) : (s.ioRead port).2.a = s.a := by simp [State.ioRead]
@[simp] theorem State.ioRead_b (port : Byte) (s : State) : (s.ioRead port).2.b = s.b := by simp [State.ioRead]
@[simp] theorem State.ioRead_c (port : Byte) (s : State) : (s.ioRead port).2.c = s.c := by simp [State.ioRead]
@[simp] theorem State.ioRead_d (port : Byte) (s : State) : (s.ioRead port).2.d = s.d := by simp [State.ioRead]
@[simp] theorem State.ioRead_e (port : Byte) (s : State) : (s.ioRead port).2.e = s.e := by simp [State.ioRead]
@[simp] theorem State.ioRead_h (port : Byte) (s : State) : (s.ioRead port).2.h = s.h := by simp [State.ioRead]
@[simp] theorem State.ioRead_l (port : Byte) (s : State) : (s.ioRead port).2.l = s.l := by simp [State.ioRead]
@[simp] theorem State.ioRead_flags (port : Byte) (s : State) : (s.ioRead port).2.flags = s.flags := by simp [State.ioRead]
@[simp] theorem State.ioRead_sp (port : Byte) (s : State) : (s.ioRead port).2.sp = s.sp := by simp [State.ioRead]
@[simp] theorem State.ioRead_pc (port : Byte) (s : State) : (s.ioRead port).2.pc = s.pc := by simp [State.ioRead]
@[simp] theorem State.ioRead_ie (port : Byte) (s : State) : (s.ioRead port).2.ie = s.ie := by simp [State.ioRead]
@[simp] theorem State.ioRead_m75 (port : Byte) (s : State) : (s.ioRead port).2.m75 = s.m75 := by simp [State.ioRead]
@[simp] theorem State.ioRead_m65 (port : Byte) (s : State) : (s.ioRead port).2.m65 = s.m65 := by simp [State.ioRead]
@[simp] theorem State.ioRead_m55 (port : Byte) (s : State) : (s.ioRead port).2.m55 = s.m55 := by simp [State.ioRead]
@[simp] theorem State.ioRead_r75 (port : Byte) (s : State) : (s.ioRead port).2.r75 = s.r75 := by simp [State.ioRead]
@[simp] theorem State.ioRead_sod (port : Byte) (s : State) : (s.ioRead port).2.sod = s.sod := by simp [State.ioRead]
@[simp] theorem State.ioRead_halted (port : Byte) (s : State) : (s.ioRead port).2.halted = s.halted := by simp [State.ioRead]
@[simp] theorem State.ioRead_eiShadow (port : Byte) (s : State) : (s.ioRead port).2.eiShadow = s.eiShadow := by simp [State.ioRead]
@[simp] theorem State.ioRead_mem (port : Byte) (s : State) : (s.ioRead port).2.mem = s.mem := by simp [State.ioRead]
@[simp] theorem State.ioRead_params (port : Byte) (s : State) : (s.ioRead port).2.params = s.params := by simp [State.ioRead]
@[simp] theorem State.ioRead_now (port : Byte) (s : State) : (s.ioRead port).2.now = s.now := by simp [State.ioRead]
@[simp] theorem State.ioRead_env (port : Byte) (s : State) : (s.ioRead port).2.env = s.env := by simp [State.ioRead]
@[simp] theorem State.ioRead_trapSinceRim (port : Byte) (s : State) : (s.ioRead port).2.trapSinceRim = s.trapSinceRim := by simp [State.ioRead]

/-! ### Port write -/

@[simp] theorem State.ioWrite_a (port v : Byte) (s : State) : (s.ioWrite port v).a = s.a := by simp [State.ioWrite]
@[simp] theorem State.ioWrite_b (port v : Byte) (s : State) : (s.ioWrite port v).b = s.b := by simp [State.ioWrite]
@[simp] theorem State.ioWrite_c (port v : Byte) (s : State) : (s.ioWrite port v).c = s.c := by simp [State.ioWrite]
@[simp] theorem State.ioWrite_d (port v : Byte) (s : State) : (s.ioWrite port v).d = s.d := by simp [State.ioWrite]
@[simp] theorem State.ioWrite_e (port v : Byte) (s : State) : (s.ioWrite port v).e = s.e := by simp [State.ioWrite]
@[simp] theorem State.ioWrite_h (port v : Byte) (s : State) : (s.ioWrite port v).h = s.h := by simp [State.ioWrite]
@[simp] theorem State.ioWrite_l (port v : Byte) (s : State) : (s.ioWrite port v).l = s.l := by simp [State.ioWrite]
@[simp] theorem State.ioWrite_flags (port v : Byte) (s : State) : (s.ioWrite port v).flags = s.flags := by simp [State.ioWrite]
@[simp] theorem State.ioWrite_sp (port v : Byte) (s : State) : (s.ioWrite port v).sp = s.sp := by simp [State.ioWrite]
@[simp] theorem State.ioWrite_pc (port v : Byte) (s : State) : (s.ioWrite port v).pc = s.pc := by simp [State.ioWrite]
@[simp] theorem State.ioWrite_ie (port v : Byte) (s : State) : (s.ioWrite port v).ie = s.ie := by simp [State.ioWrite]
@[simp] theorem State.ioWrite_m75 (port v : Byte) (s : State) : (s.ioWrite port v).m75 = s.m75 := by simp [State.ioWrite]
@[simp] theorem State.ioWrite_m65 (port v : Byte) (s : State) : (s.ioWrite port v).m65 = s.m65 := by simp [State.ioWrite]
@[simp] theorem State.ioWrite_m55 (port v : Byte) (s : State) : (s.ioWrite port v).m55 = s.m55 := by simp [State.ioWrite]
@[simp] theorem State.ioWrite_r75 (port v : Byte) (s : State) : (s.ioWrite port v).r75 = s.r75 := by simp [State.ioWrite]
@[simp] theorem State.ioWrite_sod (port v : Byte) (s : State) : (s.ioWrite port v).sod = s.sod := by simp [State.ioWrite]
@[simp] theorem State.ioWrite_halted (port v : Byte) (s : State) : (s.ioWrite port v).halted = s.halted := by simp [State.ioWrite]
@[simp] theorem State.ioWrite_eiShadow (port v : Byte) (s : State) : (s.ioWrite port v).eiShadow = s.eiShadow := by simp [State.ioWrite]
@[simp] theorem State.ioWrite_mem (port v : Byte) (s : State) : (s.ioWrite port v).mem = s.mem := by simp [State.ioWrite]
@[simp] theorem State.ioWrite_params (port v : Byte) (s : State) : (s.ioWrite port v).params = s.params := by simp [State.ioWrite]
@[simp] theorem State.ioWrite_now (port v : Byte) (s : State) : (s.ioWrite port v).now = s.now := by simp [State.ioWrite]
@[simp] theorem State.ioWrite_env (port v : Byte) (s : State) : (s.ioWrite port v).env = s.env := by simp [State.ioWrite]
@[simp] theorem State.ioWrite_answers (port v : Byte) (s : State) : (s.ioWrite port v).answers = s.answers := by simp [State.ioWrite]
@[simp] theorem State.ioWrite_trapSinceRim (port v : Byte) (s : State) : (s.ioWrite port v).trapSinceRim = s.trapSinceRim := by simp [State.ioWrite]
@[simp] theorem State.ioWrite_draws (port v : Byte) (s : State) : (s.ioWrite port v).draws = s.draws := by simp [State.ioWrite]

/-! ### Push -/

@[simp] theorem State.push16_a (v : Word) (s : State) : (s.push16 v).a = s.a := by simp [State.push16]
@[simp] theorem State.push16_b (v : Word) (s : State) : (s.push16 v).b = s.b := by simp [State.push16]
@[simp] theorem State.push16_c (v : Word) (s : State) : (s.push16 v).c = s.c := by simp [State.push16]
@[simp] theorem State.push16_d (v : Word) (s : State) : (s.push16 v).d = s.d := by simp [State.push16]
@[simp] theorem State.push16_e (v : Word) (s : State) : (s.push16 v).e = s.e := by simp [State.push16]
@[simp] theorem State.push16_h (v : Word) (s : State) : (s.push16 v).h = s.h := by simp [State.push16]
@[simp] theorem State.push16_l (v : Word) (s : State) : (s.push16 v).l = s.l := by simp [State.push16]
@[simp] theorem State.push16_flags (v : Word) (s : State) : (s.push16 v).flags = s.flags := by simp [State.push16]
@[simp] theorem State.push16_pc (v : Word) (s : State) : (s.push16 v).pc = s.pc := by simp [State.push16]
@[simp] theorem State.push16_ie (v : Word) (s : State) : (s.push16 v).ie = s.ie := by simp [State.push16]
@[simp] theorem State.push16_m75 (v : Word) (s : State) : (s.push16 v).m75 = s.m75 := by simp [State.push16]
@[simp] theorem State.push16_m65 (v : Word) (s : State) : (s.push16 v).m65 = s.m65 := by simp [State.push16]
@[simp] theorem State.push16_m55 (v : Word) (s : State) : (s.push16 v).m55 = s.m55 := by simp [State.push16]
@[simp] theorem State.push16_r75 (v : Word) (s : State) : (s.push16 v).r75 = s.r75 := by simp [State.push16]
@[simp] theorem State.push16_sod (v : Word) (s : State) : (s.push16 v).sod = s.sod := by simp [State.push16]
@[simp] theorem State.push16_halted (v : Word) (s : State) : (s.push16 v).halted = s.halted := by simp [State.push16]
@[simp] theorem State.push16_eiShadow (v : Word) (s : State) : (s.push16 v).eiShadow = s.eiShadow := by simp [State.push16]
@[simp] theorem State.push16_params (v : Word) (s : State) : (s.push16 v).params = s.params := by simp [State.push16]
@[simp] theorem State.push16_now (v : Word) (s : State) : (s.push16 v).now = s.now := by simp [State.push16]
@[simp] theorem State.push16_env (v : Word) (s : State) : (s.push16 v).env = s.env := by simp [State.push16]
@[simp] theorem State.push16_answers (v : Word) (s : State) : (s.push16 v).answers = s.answers := by simp [State.push16]
@[simp] theorem State.push16_trapSinceRim (v : Word) (s : State) : (s.push16 v).trapSinceRim = s.trapSinceRim := by simp [State.push16]
@[simp] theorem State.push16_draws (v : Word) (s : State) : (s.push16 v).draws = s.draws := by simp [State.push16]

@[simp] theorem State.push16_sp (v : Word) (s : State) : (s.push16 v).sp = s.sp - 2#16 := rfl

/-! ### Pop -/

@[simp] theorem State.pop16_a (s : State) : s.pop16.2.a = s.a := by simp [State.pop16]
@[simp] theorem State.pop16_b (s : State) : s.pop16.2.b = s.b := by simp [State.pop16]
@[simp] theorem State.pop16_c (s : State) : s.pop16.2.c = s.c := by simp [State.pop16]
@[simp] theorem State.pop16_d (s : State) : s.pop16.2.d = s.d := by simp [State.pop16]
@[simp] theorem State.pop16_e (s : State) : s.pop16.2.e = s.e := by simp [State.pop16]
@[simp] theorem State.pop16_h (s : State) : s.pop16.2.h = s.h := by simp [State.pop16]
@[simp] theorem State.pop16_l (s : State) : s.pop16.2.l = s.l := by simp [State.pop16]
@[simp] theorem State.pop16_flags (s : State) : s.pop16.2.flags = s.flags := by simp [State.pop16]
@[simp] theorem State.pop16_pc (s : State) : s.pop16.2.pc = s.pc := by simp [State.pop16]
@[simp] theorem State.pop16_ie (s : State) : s.pop16.2.ie = s.ie := by simp [State.pop16]
@[simp] theorem State.pop16_m75 (s : State) : s.pop16.2.m75 = s.m75 := by simp [State.pop16]
@[simp] theorem State.pop16_m65 (s : State) : s.pop16.2.m65 = s.m65 := by simp [State.pop16]
@[simp] theorem State.pop16_m55 (s : State) : s.pop16.2.m55 = s.m55 := by simp [State.pop16]
@[simp] theorem State.pop16_r75 (s : State) : s.pop16.2.r75 = s.r75 := by simp [State.pop16]
@[simp] theorem State.pop16_sod (s : State) : s.pop16.2.sod = s.sod := by simp [State.pop16]
@[simp] theorem State.pop16_halted (s : State) : s.pop16.2.halted = s.halted := by simp [State.pop16]
@[simp] theorem State.pop16_eiShadow (s : State) : s.pop16.2.eiShadow = s.eiShadow := by simp [State.pop16]
@[simp] theorem State.pop16_mem (s : State) : s.pop16.2.mem = s.mem := by simp [State.pop16]
@[simp] theorem State.pop16_params (s : State) : s.pop16.2.params = s.params := by simp [State.pop16]
@[simp] theorem State.pop16_now (s : State) : s.pop16.2.now = s.now := by simp [State.pop16]
@[simp] theorem State.pop16_env (s : State) : s.pop16.2.env = s.env := by simp [State.pop16]
@[simp] theorem State.pop16_trapSinceRim (s : State) : s.pop16.2.trapSinceRim = s.trapSinceRim := by simp [State.pop16]

@[simp] theorem State.pop16_sp (s : State) : s.pop16.2.sp = s.sp + 2#16 := rfl

/-! ### Call -/

@[simp] theorem State.callTo_a (back target : Word) (s : State) : (s.callTo back target).a = s.a := by simp [State.callTo]
@[simp] theorem State.callTo_b (back target : Word) (s : State) : (s.callTo back target).b = s.b := by simp [State.callTo]
@[simp] theorem State.callTo_c (back target : Word) (s : State) : (s.callTo back target).c = s.c := by simp [State.callTo]
@[simp] theorem State.callTo_d (back target : Word) (s : State) : (s.callTo back target).d = s.d := by simp [State.callTo]
@[simp] theorem State.callTo_e (back target : Word) (s : State) : (s.callTo back target).e = s.e := by simp [State.callTo]
@[simp] theorem State.callTo_h (back target : Word) (s : State) : (s.callTo back target).h = s.h := by simp [State.callTo]
@[simp] theorem State.callTo_l (back target : Word) (s : State) : (s.callTo back target).l = s.l := by simp [State.callTo]
@[simp] theorem State.callTo_flags (back target : Word) (s : State) : (s.callTo back target).flags = s.flags := by simp [State.callTo]
@[simp] theorem State.callTo_ie (back target : Word) (s : State) : (s.callTo back target).ie = s.ie := by simp [State.callTo]
@[simp] theorem State.callTo_m75 (back target : Word) (s : State) : (s.callTo back target).m75 = s.m75 := by simp [State.callTo]
@[simp] theorem State.callTo_m65 (back target : Word) (s : State) : (s.callTo back target).m65 = s.m65 := by simp [State.callTo]
@[simp] theorem State.callTo_m55 (back target : Word) (s : State) : (s.callTo back target).m55 = s.m55 := by simp [State.callTo]
@[simp] theorem State.callTo_r75 (back target : Word) (s : State) : (s.callTo back target).r75 = s.r75 := by simp [State.callTo]
@[simp] theorem State.callTo_sod (back target : Word) (s : State) : (s.callTo back target).sod = s.sod := by simp [State.callTo]
@[simp] theorem State.callTo_halted (back target : Word) (s : State) : (s.callTo back target).halted = s.halted := by simp [State.callTo]
@[simp] theorem State.callTo_eiShadow (back target : Word) (s : State) : (s.callTo back target).eiShadow = s.eiShadow := by simp [State.callTo]
@[simp] theorem State.callTo_params (back target : Word) (s : State) : (s.callTo back target).params = s.params := by simp [State.callTo]
@[simp] theorem State.callTo_now (back target : Word) (s : State) : (s.callTo back target).now = s.now := by simp [State.callTo]
@[simp] theorem State.callTo_env (back target : Word) (s : State) : (s.callTo back target).env = s.env := by simp [State.callTo]
@[simp] theorem State.callTo_answers (back target : Word) (s : State) : (s.callTo back target).answers = s.answers := by simp [State.callTo]
@[simp] theorem State.callTo_trapSinceRim (back target : Word) (s : State) : (s.callTo back target).trapSinceRim = s.trapSinceRim := by simp [State.callTo]
@[simp] theorem State.callTo_draws (back target : Word) (s : State) : (s.callTo back target).draws = s.draws := by simp [State.callTo]

@[simp] theorem State.callTo_sp (back target : Word) (s : State) : (s.callTo back target).sp = s.sp - 2#16 := rfl
@[simp] theorem State.callTo_pc (back target : Word) (s : State) : (s.callTo back target).pc = target := rfl
@[simp] theorem State.callTo_mem (back target : Word) (s : State) : (s.callTo back target).mem = (s.push16 back).mem := rfl
@[simp] theorem State.callTo_log (back target : Word) (s : State) : (s.callTo back target).log = (s.push16 back).log := rfl

/-! ### Return -/

@[simp] theorem State.returnFrom_a (s : State) : s.returnFrom.a = s.a := by simp [State.returnFrom]
@[simp] theorem State.returnFrom_b (s : State) : s.returnFrom.b = s.b := by simp [State.returnFrom]
@[simp] theorem State.returnFrom_c (s : State) : s.returnFrom.c = s.c := by simp [State.returnFrom]
@[simp] theorem State.returnFrom_d (s : State) : s.returnFrom.d = s.d := by simp [State.returnFrom]
@[simp] theorem State.returnFrom_e (s : State) : s.returnFrom.e = s.e := by simp [State.returnFrom]
@[simp] theorem State.returnFrom_h (s : State) : s.returnFrom.h = s.h := by simp [State.returnFrom]
@[simp] theorem State.returnFrom_l (s : State) : s.returnFrom.l = s.l := by simp [State.returnFrom]
@[simp] theorem State.returnFrom_flags (s : State) : s.returnFrom.flags = s.flags := by simp [State.returnFrom]
@[simp] theorem State.returnFrom_ie (s : State) : s.returnFrom.ie = s.ie := by simp [State.returnFrom]
@[simp] theorem State.returnFrom_m75 (s : State) : s.returnFrom.m75 = s.m75 := by simp [State.returnFrom]
@[simp] theorem State.returnFrom_m65 (s : State) : s.returnFrom.m65 = s.m65 := by simp [State.returnFrom]
@[simp] theorem State.returnFrom_m55 (s : State) : s.returnFrom.m55 = s.m55 := by simp [State.returnFrom]
@[simp] theorem State.returnFrom_r75 (s : State) : s.returnFrom.r75 = s.r75 := by simp [State.returnFrom]
@[simp] theorem State.returnFrom_sod (s : State) : s.returnFrom.sod = s.sod := by simp [State.returnFrom]
@[simp] theorem State.returnFrom_halted (s : State) : s.returnFrom.halted = s.halted := by simp [State.returnFrom]
@[simp] theorem State.returnFrom_eiShadow (s : State) : s.returnFrom.eiShadow = s.eiShadow := by simp [State.returnFrom]
@[simp] theorem State.returnFrom_mem (s : State) : s.returnFrom.mem = s.mem := by simp [State.returnFrom]
@[simp] theorem State.returnFrom_params (s : State) : s.returnFrom.params = s.params := by simp [State.returnFrom]
@[simp] theorem State.returnFrom_now (s : State) : s.returnFrom.now = s.now := by simp [State.returnFrom]
@[simp] theorem State.returnFrom_env (s : State) : s.returnFrom.env = s.env := by simp [State.returnFrom]
@[simp] theorem State.returnFrom_trapSinceRim (s : State) : s.returnFrom.trapSinceRim = s.trapSinceRim := by simp [State.returnFrom]

@[simp] theorem State.returnFrom_sp (s : State) : s.returnFrom.sp = s.sp + 2#16 := rfl
@[simp] theorem State.returnFrom_pc (s : State) : s.returnFrom.pc = s.pop16.1 := rfl

/-! ### Operand read -/

@[simp] theorem State.rd8_a (o : Operand8) (s : State) : (s.rd8 o).2.a = s.a := by cases o <;> simp [State.rd8]
@[simp] theorem State.rd8_b (o : Operand8) (s : State) : (s.rd8 o).2.b = s.b := by cases o <;> simp [State.rd8]
@[simp] theorem State.rd8_c (o : Operand8) (s : State) : (s.rd8 o).2.c = s.c := by cases o <;> simp [State.rd8]
@[simp] theorem State.rd8_d (o : Operand8) (s : State) : (s.rd8 o).2.d = s.d := by cases o <;> simp [State.rd8]
@[simp] theorem State.rd8_e (o : Operand8) (s : State) : (s.rd8 o).2.e = s.e := by cases o <;> simp [State.rd8]
@[simp] theorem State.rd8_h (o : Operand8) (s : State) : (s.rd8 o).2.h = s.h := by cases o <;> simp [State.rd8]
@[simp] theorem State.rd8_l (o : Operand8) (s : State) : (s.rd8 o).2.l = s.l := by cases o <;> simp [State.rd8]
@[simp] theorem State.rd8_flags (o : Operand8) (s : State) : (s.rd8 o).2.flags = s.flags := by cases o <;> simp [State.rd8]
@[simp] theorem State.rd8_sp (o : Operand8) (s : State) : (s.rd8 o).2.sp = s.sp := by cases o <;> simp [State.rd8]
@[simp] theorem State.rd8_pc (o : Operand8) (s : State) : (s.rd8 o).2.pc = s.pc := by cases o <;> simp [State.rd8]
@[simp] theorem State.rd8_ie (o : Operand8) (s : State) : (s.rd8 o).2.ie = s.ie := by cases o <;> simp [State.rd8]
@[simp] theorem State.rd8_m75 (o : Operand8) (s : State) : (s.rd8 o).2.m75 = s.m75 := by cases o <;> simp [State.rd8]
@[simp] theorem State.rd8_m65 (o : Operand8) (s : State) : (s.rd8 o).2.m65 = s.m65 := by cases o <;> simp [State.rd8]
@[simp] theorem State.rd8_m55 (o : Operand8) (s : State) : (s.rd8 o).2.m55 = s.m55 := by cases o <;> simp [State.rd8]
@[simp] theorem State.rd8_r75 (o : Operand8) (s : State) : (s.rd8 o).2.r75 = s.r75 := by cases o <;> simp [State.rd8]
@[simp] theorem State.rd8_sod (o : Operand8) (s : State) : (s.rd8 o).2.sod = s.sod := by cases o <;> simp [State.rd8]
@[simp] theorem State.rd8_halted (o : Operand8) (s : State) : (s.rd8 o).2.halted = s.halted := by cases o <;> simp [State.rd8]
@[simp] theorem State.rd8_eiShadow (o : Operand8) (s : State) : (s.rd8 o).2.eiShadow = s.eiShadow := by cases o <;> simp [State.rd8]
@[simp] theorem State.rd8_mem (o : Operand8) (s : State) : (s.rd8 o).2.mem = s.mem := by cases o <;> simp [State.rd8]
@[simp] theorem State.rd8_params (o : Operand8) (s : State) : (s.rd8 o).2.params = s.params := by cases o <;> simp [State.rd8]
@[simp] theorem State.rd8_now (o : Operand8) (s : State) : (s.rd8 o).2.now = s.now := by cases o <;> simp [State.rd8]
@[simp] theorem State.rd8_env (o : Operand8) (s : State) : (s.rd8 o).2.env = s.env := by cases o <;> simp [State.rd8]
@[simp] theorem State.rd8_trapSinceRim (o : Operand8) (s : State) : (s.rd8 o).2.trapSinceRim = s.trapSinceRim := by cases o <;> simp [State.rd8]

/-! ### Operand write -/

@[simp] theorem State.wr8_flags (o : Operand8) (v : Byte) (s : State) : (s.wr8 o v).flags = s.flags := by cases o <;> simp [State.wr8]
@[simp] theorem State.wr8_sp (o : Operand8) (v : Byte) (s : State) : (s.wr8 o v).sp = s.sp := by cases o <;> simp [State.wr8]
@[simp] theorem State.wr8_pc (o : Operand8) (v : Byte) (s : State) : (s.wr8 o v).pc = s.pc := by cases o <;> simp [State.wr8]
@[simp] theorem State.wr8_ie (o : Operand8) (v : Byte) (s : State) : (s.wr8 o v).ie = s.ie := by cases o <;> simp [State.wr8]
@[simp] theorem State.wr8_m75 (o : Operand8) (v : Byte) (s : State) : (s.wr8 o v).m75 = s.m75 := by cases o <;> simp [State.wr8]
@[simp] theorem State.wr8_m65 (o : Operand8) (v : Byte) (s : State) : (s.wr8 o v).m65 = s.m65 := by cases o <;> simp [State.wr8]
@[simp] theorem State.wr8_m55 (o : Operand8) (v : Byte) (s : State) : (s.wr8 o v).m55 = s.m55 := by cases o <;> simp [State.wr8]
@[simp] theorem State.wr8_r75 (o : Operand8) (v : Byte) (s : State) : (s.wr8 o v).r75 = s.r75 := by cases o <;> simp [State.wr8]
@[simp] theorem State.wr8_sod (o : Operand8) (v : Byte) (s : State) : (s.wr8 o v).sod = s.sod := by cases o <;> simp [State.wr8]
@[simp] theorem State.wr8_halted (o : Operand8) (v : Byte) (s : State) : (s.wr8 o v).halted = s.halted := by cases o <;> simp [State.wr8]
@[simp] theorem State.wr8_eiShadow (o : Operand8) (v : Byte) (s : State) : (s.wr8 o v).eiShadow = s.eiShadow := by cases o <;> simp [State.wr8]
@[simp] theorem State.wr8_params (o : Operand8) (v : Byte) (s : State) : (s.wr8 o v).params = s.params := by cases o <;> simp [State.wr8]
@[simp] theorem State.wr8_now (o : Operand8) (v : Byte) (s : State) : (s.wr8 o v).now = s.now := by cases o <;> simp [State.wr8]
@[simp] theorem State.wr8_env (o : Operand8) (v : Byte) (s : State) : (s.wr8 o v).env = s.env := by cases o <;> simp [State.wr8]
@[simp] theorem State.wr8_answers (o : Operand8) (v : Byte) (s : State) : (s.wr8 o v).answers = s.answers := by cases o <;> simp [State.wr8]
@[simp] theorem State.wr8_trapSinceRim (o : Operand8) (v : Byte) (s : State) : (s.wr8 o v).trapSinceRim = s.trapSinceRim := by cases o <;> simp [State.wr8]
@[simp] theorem State.wr8_draws (o : Operand8) (v : Byte) (s : State) : (s.wr8 o v).draws = s.draws := by cases o <;> simp [State.wr8]

/-! ### Conditional jump -/

@[simp] theorem State.jumpIf_a (cond : Cond) (a16 : Word) (s : State) : (s.jumpIf cond a16).a = s.a := by unfold State.jumpIf; split <;> simp
@[simp] theorem State.jumpIf_b (cond : Cond) (a16 : Word) (s : State) : (s.jumpIf cond a16).b = s.b := by unfold State.jumpIf; split <;> simp
@[simp] theorem State.jumpIf_c (cond : Cond) (a16 : Word) (s : State) : (s.jumpIf cond a16).c = s.c := by unfold State.jumpIf; split <;> simp
@[simp] theorem State.jumpIf_d (cond : Cond) (a16 : Word) (s : State) : (s.jumpIf cond a16).d = s.d := by unfold State.jumpIf; split <;> simp
@[simp] theorem State.jumpIf_e (cond : Cond) (a16 : Word) (s : State) : (s.jumpIf cond a16).e = s.e := by unfold State.jumpIf; split <;> simp
@[simp] theorem State.jumpIf_h (cond : Cond) (a16 : Word) (s : State) : (s.jumpIf cond a16).h = s.h := by unfold State.jumpIf; split <;> simp
@[simp] theorem State.jumpIf_l (cond : Cond) (a16 : Word) (s : State) : (s.jumpIf cond a16).l = s.l := by unfold State.jumpIf; split <;> simp
@[simp] theorem State.jumpIf_flags (cond : Cond) (a16 : Word) (s : State) : (s.jumpIf cond a16).flags = s.flags := by unfold State.jumpIf; split <;> simp
@[simp] theorem State.jumpIf_sp (cond : Cond) (a16 : Word) (s : State) : (s.jumpIf cond a16).sp = s.sp := by unfold State.jumpIf; split <;> simp
@[simp] theorem State.jumpIf_ie (cond : Cond) (a16 : Word) (s : State) : (s.jumpIf cond a16).ie = s.ie := by unfold State.jumpIf; split <;> simp
@[simp] theorem State.jumpIf_m75 (cond : Cond) (a16 : Word) (s : State) : (s.jumpIf cond a16).m75 = s.m75 := by unfold State.jumpIf; split <;> simp
@[simp] theorem State.jumpIf_m65 (cond : Cond) (a16 : Word) (s : State) : (s.jumpIf cond a16).m65 = s.m65 := by unfold State.jumpIf; split <;> simp
@[simp] theorem State.jumpIf_m55 (cond : Cond) (a16 : Word) (s : State) : (s.jumpIf cond a16).m55 = s.m55 := by unfold State.jumpIf; split <;> simp
@[simp] theorem State.jumpIf_r75 (cond : Cond) (a16 : Word) (s : State) : (s.jumpIf cond a16).r75 = s.r75 := by unfold State.jumpIf; split <;> simp
@[simp] theorem State.jumpIf_sod (cond : Cond) (a16 : Word) (s : State) : (s.jumpIf cond a16).sod = s.sod := by unfold State.jumpIf; split <;> simp
@[simp] theorem State.jumpIf_halted (cond : Cond) (a16 : Word) (s : State) : (s.jumpIf cond a16).halted = s.halted := by unfold State.jumpIf; split <;> simp
@[simp] theorem State.jumpIf_eiShadow (cond : Cond) (a16 : Word) (s : State) : (s.jumpIf cond a16).eiShadow = s.eiShadow := by unfold State.jumpIf; split <;> simp
@[simp] theorem State.jumpIf_mem (cond : Cond) (a16 : Word) (s : State) : (s.jumpIf cond a16).mem = s.mem := by unfold State.jumpIf; split <;> simp
@[simp] theorem State.jumpIf_params (cond : Cond) (a16 : Word) (s : State) : (s.jumpIf cond a16).params = s.params := by unfold State.jumpIf; split <;> simp
@[simp] theorem State.jumpIf_now (cond : Cond) (a16 : Word) (s : State) : (s.jumpIf cond a16).now = s.now := by unfold State.jumpIf; split <;> simp
@[simp] theorem State.jumpIf_env (cond : Cond) (a16 : Word) (s : State) : (s.jumpIf cond a16).env = s.env := by unfold State.jumpIf; split <;> simp
@[simp] theorem State.jumpIf_answers (cond : Cond) (a16 : Word) (s : State) : (s.jumpIf cond a16).answers = s.answers := by unfold State.jumpIf; split <;> simp
@[simp] theorem State.jumpIf_log (cond : Cond) (a16 : Word) (s : State) : (s.jumpIf cond a16).log = s.log := by unfold State.jumpIf; split <;> simp
@[simp] theorem State.jumpIf_trapSinceRim (cond : Cond) (a16 : Word) (s : State) : (s.jumpIf cond a16).trapSinceRim = s.trapSinceRim := by unfold State.jumpIf; split <;> simp
@[simp] theorem State.jumpIf_draws (cond : Cond) (a16 : Word) (s : State) : (s.jumpIf cond a16).draws = s.draws := by unfold State.jumpIf; split <;> simp

/-! ### Conditional call -/

@[simp] theorem State.callIf_a (cond : Cond) (a16 : Word) (s : State) : (s.callIf cond a16).a = s.a := by unfold State.callIf; split <;> simp
@[simp] theorem State.callIf_b (cond : Cond) (a16 : Word) (s : State) : (s.callIf cond a16).b = s.b := by unfold State.callIf; split <;> simp
@[simp] theorem State.callIf_c (cond : Cond) (a16 : Word) (s : State) : (s.callIf cond a16).c = s.c := by unfold State.callIf; split <;> simp
@[simp] theorem State.callIf_d (cond : Cond) (a16 : Word) (s : State) : (s.callIf cond a16).d = s.d := by unfold State.callIf; split <;> simp
@[simp] theorem State.callIf_e (cond : Cond) (a16 : Word) (s : State) : (s.callIf cond a16).e = s.e := by unfold State.callIf; split <;> simp
@[simp] theorem State.callIf_h (cond : Cond) (a16 : Word) (s : State) : (s.callIf cond a16).h = s.h := by unfold State.callIf; split <;> simp
@[simp] theorem State.callIf_l (cond : Cond) (a16 : Word) (s : State) : (s.callIf cond a16).l = s.l := by unfold State.callIf; split <;> simp
@[simp] theorem State.callIf_flags (cond : Cond) (a16 : Word) (s : State) : (s.callIf cond a16).flags = s.flags := by unfold State.callIf; split <;> simp
@[simp] theorem State.callIf_ie (cond : Cond) (a16 : Word) (s : State) : (s.callIf cond a16).ie = s.ie := by unfold State.callIf; split <;> simp
@[simp] theorem State.callIf_m75 (cond : Cond) (a16 : Word) (s : State) : (s.callIf cond a16).m75 = s.m75 := by unfold State.callIf; split <;> simp
@[simp] theorem State.callIf_m65 (cond : Cond) (a16 : Word) (s : State) : (s.callIf cond a16).m65 = s.m65 := by unfold State.callIf; split <;> simp
@[simp] theorem State.callIf_m55 (cond : Cond) (a16 : Word) (s : State) : (s.callIf cond a16).m55 = s.m55 := by unfold State.callIf; split <;> simp
@[simp] theorem State.callIf_r75 (cond : Cond) (a16 : Word) (s : State) : (s.callIf cond a16).r75 = s.r75 := by unfold State.callIf; split <;> simp
@[simp] theorem State.callIf_sod (cond : Cond) (a16 : Word) (s : State) : (s.callIf cond a16).sod = s.sod := by unfold State.callIf; split <;> simp
@[simp] theorem State.callIf_halted (cond : Cond) (a16 : Word) (s : State) : (s.callIf cond a16).halted = s.halted := by unfold State.callIf; split <;> simp
@[simp] theorem State.callIf_eiShadow (cond : Cond) (a16 : Word) (s : State) : (s.callIf cond a16).eiShadow = s.eiShadow := by unfold State.callIf; split <;> simp
@[simp] theorem State.callIf_params (cond : Cond) (a16 : Word) (s : State) : (s.callIf cond a16).params = s.params := by unfold State.callIf; split <;> simp
@[simp] theorem State.callIf_now (cond : Cond) (a16 : Word) (s : State) : (s.callIf cond a16).now = s.now := by unfold State.callIf; split <;> simp
@[simp] theorem State.callIf_env (cond : Cond) (a16 : Word) (s : State) : (s.callIf cond a16).env = s.env := by unfold State.callIf; split <;> simp
@[simp] theorem State.callIf_answers (cond : Cond) (a16 : Word) (s : State) : (s.callIf cond a16).answers = s.answers := by unfold State.callIf; split <;> simp
@[simp] theorem State.callIf_trapSinceRim (cond : Cond) (a16 : Word) (s : State) : (s.callIf cond a16).trapSinceRim = s.trapSinceRim := by unfold State.callIf; split <;> simp
@[simp] theorem State.callIf_draws (cond : Cond) (a16 : Word) (s : State) : (s.callIf cond a16).draws = s.draws := by unfold State.callIf; split <;> simp

/-! ### Conditional return -/

@[simp] theorem State.returnIf_a (cond : Cond) (s : State) : (s.returnIf cond).a = s.a := by unfold State.returnIf; split <;> simp
@[simp] theorem State.returnIf_b (cond : Cond) (s : State) : (s.returnIf cond).b = s.b := by unfold State.returnIf; split <;> simp
@[simp] theorem State.returnIf_c (cond : Cond) (s : State) : (s.returnIf cond).c = s.c := by unfold State.returnIf; split <;> simp
@[simp] theorem State.returnIf_d (cond : Cond) (s : State) : (s.returnIf cond).d = s.d := by unfold State.returnIf; split <;> simp
@[simp] theorem State.returnIf_e (cond : Cond) (s : State) : (s.returnIf cond).e = s.e := by unfold State.returnIf; split <;> simp
@[simp] theorem State.returnIf_h (cond : Cond) (s : State) : (s.returnIf cond).h = s.h := by unfold State.returnIf; split <;> simp
@[simp] theorem State.returnIf_l (cond : Cond) (s : State) : (s.returnIf cond).l = s.l := by unfold State.returnIf; split <;> simp
@[simp] theorem State.returnIf_flags (cond : Cond) (s : State) : (s.returnIf cond).flags = s.flags := by unfold State.returnIf; split <;> simp
@[simp] theorem State.returnIf_ie (cond : Cond) (s : State) : (s.returnIf cond).ie = s.ie := by unfold State.returnIf; split <;> simp
@[simp] theorem State.returnIf_m75 (cond : Cond) (s : State) : (s.returnIf cond).m75 = s.m75 := by unfold State.returnIf; split <;> simp
@[simp] theorem State.returnIf_m65 (cond : Cond) (s : State) : (s.returnIf cond).m65 = s.m65 := by unfold State.returnIf; split <;> simp
@[simp] theorem State.returnIf_m55 (cond : Cond) (s : State) : (s.returnIf cond).m55 = s.m55 := by unfold State.returnIf; split <;> simp
@[simp] theorem State.returnIf_r75 (cond : Cond) (s : State) : (s.returnIf cond).r75 = s.r75 := by unfold State.returnIf; split <;> simp
@[simp] theorem State.returnIf_sod (cond : Cond) (s : State) : (s.returnIf cond).sod = s.sod := by unfold State.returnIf; split <;> simp
@[simp] theorem State.returnIf_halted (cond : Cond) (s : State) : (s.returnIf cond).halted = s.halted := by unfold State.returnIf; split <;> simp
@[simp] theorem State.returnIf_eiShadow (cond : Cond) (s : State) : (s.returnIf cond).eiShadow = s.eiShadow := by unfold State.returnIf; split <;> simp
@[simp] theorem State.returnIf_mem (cond : Cond) (s : State) : (s.returnIf cond).mem = s.mem := by unfold State.returnIf; split <;> simp
@[simp] theorem State.returnIf_params (cond : Cond) (s : State) : (s.returnIf cond).params = s.params := by unfold State.returnIf; split <;> simp
@[simp] theorem State.returnIf_now (cond : Cond) (s : State) : (s.returnIf cond).now = s.now := by unfold State.returnIf; split <;> simp
@[simp] theorem State.returnIf_env (cond : Cond) (s : State) : (s.returnIf cond).env = s.env := by unfold State.returnIf; split <;> simp
@[simp] theorem State.returnIf_trapSinceRim (cond : Cond) (s : State) : (s.returnIf cond).trapSinceRim = s.trapSinceRim := by unfold State.returnIf; split <;> simp

/-! ### The serial line sampled -/

@[simp] theorem State.sampleSid_a (s : State) : s.sampleSid.2.a = s.a := by unfold State.sampleSid; split <;> simp
@[simp] theorem State.sampleSid_b (s : State) : s.sampleSid.2.b = s.b := by unfold State.sampleSid; split <;> simp
@[simp] theorem State.sampleSid_c (s : State) : s.sampleSid.2.c = s.c := by unfold State.sampleSid; split <;> simp
@[simp] theorem State.sampleSid_d (s : State) : s.sampleSid.2.d = s.d := by unfold State.sampleSid; split <;> simp
@[simp] theorem State.sampleSid_e (s : State) : s.sampleSid.2.e = s.e := by unfold State.sampleSid; split <;> simp
@[simp] theorem State.sampleSid_h (s : State) : s.sampleSid.2.h = s.h := by unfold State.sampleSid; split <;> simp
@[simp] theorem State.sampleSid_l (s : State) : s.sampleSid.2.l = s.l := by unfold State.sampleSid; split <;> simp
@[simp] theorem State.sampleSid_flags (s : State) : s.sampleSid.2.flags = s.flags := by unfold State.sampleSid; split <;> simp
@[simp] theorem State.sampleSid_sp (s : State) : s.sampleSid.2.sp = s.sp := by unfold State.sampleSid; split <;> simp
@[simp] theorem State.sampleSid_pc (s : State) : s.sampleSid.2.pc = s.pc := by unfold State.sampleSid; split <;> simp
@[simp] theorem State.sampleSid_ie (s : State) : s.sampleSid.2.ie = s.ie := by unfold State.sampleSid; split <;> simp
@[simp] theorem State.sampleSid_m75 (s : State) : s.sampleSid.2.m75 = s.m75 := by unfold State.sampleSid; split <;> simp
@[simp] theorem State.sampleSid_m65 (s : State) : s.sampleSid.2.m65 = s.m65 := by unfold State.sampleSid; split <;> simp
@[simp] theorem State.sampleSid_m55 (s : State) : s.sampleSid.2.m55 = s.m55 := by unfold State.sampleSid; split <;> simp
@[simp] theorem State.sampleSid_r75 (s : State) : s.sampleSid.2.r75 = s.r75 := by unfold State.sampleSid; split <;> simp
@[simp] theorem State.sampleSid_sod (s : State) : s.sampleSid.2.sod = s.sod := by unfold State.sampleSid; split <;> simp
@[simp] theorem State.sampleSid_halted (s : State) : s.sampleSid.2.halted = s.halted := by unfold State.sampleSid; split <;> simp
@[simp] theorem State.sampleSid_eiShadow (s : State) : s.sampleSid.2.eiShadow = s.eiShadow := by unfold State.sampleSid; split <;> simp
@[simp] theorem State.sampleSid_mem (s : State) : s.sampleSid.2.mem = s.mem := by unfold State.sampleSid; split <;> simp
@[simp] theorem State.sampleSid_params (s : State) : s.sampleSid.2.params = s.params := by unfold State.sampleSid; split <;> simp
@[simp] theorem State.sampleSid_now (s : State) : s.sampleSid.2.now = s.now := by unfold State.sampleSid; split <;> simp
@[simp] theorem State.sampleSid_env (s : State) : s.sampleSid.2.env = s.env := by unfold State.sampleSid; split <;> simp
@[simp] theorem State.sampleSid_answers (s : State) : s.sampleSid.2.answers = s.answers := by unfold State.sampleSid; split <;> simp
@[simp] theorem State.sampleSid_log (s : State) : s.sampleSid.2.log = s.log := by unfold State.sampleSid; split <;> simp
@[simp] theorem State.sampleSid_trapSinceRim (s : State) : s.sampleSid.2.trapSinceRim = s.trapSinceRim := by unfold State.sampleSid; split <;> simp

/-! ### IE as RIM shows it -/

@[simp] theorem State.sampleIe_a (s : State) : s.sampleIe.2.a = s.a := by unfold State.sampleIe; split <;> simp
@[simp] theorem State.sampleIe_b (s : State) : s.sampleIe.2.b = s.b := by unfold State.sampleIe; split <;> simp
@[simp] theorem State.sampleIe_c (s : State) : s.sampleIe.2.c = s.c := by unfold State.sampleIe; split <;> simp
@[simp] theorem State.sampleIe_d (s : State) : s.sampleIe.2.d = s.d := by unfold State.sampleIe; split <;> simp
@[simp] theorem State.sampleIe_e (s : State) : s.sampleIe.2.e = s.e := by unfold State.sampleIe; split <;> simp
@[simp] theorem State.sampleIe_h (s : State) : s.sampleIe.2.h = s.h := by unfold State.sampleIe; split <;> simp
@[simp] theorem State.sampleIe_l (s : State) : s.sampleIe.2.l = s.l := by unfold State.sampleIe; split <;> simp
@[simp] theorem State.sampleIe_flags (s : State) : s.sampleIe.2.flags = s.flags := by unfold State.sampleIe; split <;> simp
@[simp] theorem State.sampleIe_sp (s : State) : s.sampleIe.2.sp = s.sp := by unfold State.sampleIe; split <;> simp
@[simp] theorem State.sampleIe_pc (s : State) : s.sampleIe.2.pc = s.pc := by unfold State.sampleIe; split <;> simp
@[simp] theorem State.sampleIe_ie (s : State) : s.sampleIe.2.ie = s.ie := by unfold State.sampleIe; split <;> simp
@[simp] theorem State.sampleIe_m75 (s : State) : s.sampleIe.2.m75 = s.m75 := by unfold State.sampleIe; split <;> simp
@[simp] theorem State.sampleIe_m65 (s : State) : s.sampleIe.2.m65 = s.m65 := by unfold State.sampleIe; split <;> simp
@[simp] theorem State.sampleIe_m55 (s : State) : s.sampleIe.2.m55 = s.m55 := by unfold State.sampleIe; split <;> simp
@[simp] theorem State.sampleIe_r75 (s : State) : s.sampleIe.2.r75 = s.r75 := by unfold State.sampleIe; split <;> simp
@[simp] theorem State.sampleIe_sod (s : State) : s.sampleIe.2.sod = s.sod := by unfold State.sampleIe; split <;> simp
@[simp] theorem State.sampleIe_halted (s : State) : s.sampleIe.2.halted = s.halted := by unfold State.sampleIe; split <;> simp
@[simp] theorem State.sampleIe_eiShadow (s : State) : s.sampleIe.2.eiShadow = s.eiShadow := by unfold State.sampleIe; split <;> simp
@[simp] theorem State.sampleIe_mem (s : State) : s.sampleIe.2.mem = s.mem := by unfold State.sampleIe; split <;> simp
@[simp] theorem State.sampleIe_params (s : State) : s.sampleIe.2.params = s.params := by unfold State.sampleIe; split <;> simp
@[simp] theorem State.sampleIe_now (s : State) : s.sampleIe.2.now = s.now := by unfold State.sampleIe; split <;> simp
@[simp] theorem State.sampleIe_env (s : State) : s.sampleIe.2.env = s.env := by unfold State.sampleIe; split <;> simp
@[simp] theorem State.sampleIe_answers (s : State) : s.sampleIe.2.answers = s.answers := by unfold State.sampleIe; split <;> simp
@[simp] theorem State.sampleIe_log (s : State) : s.sampleIe.2.log = s.log := by unfold State.sampleIe; split <;> simp
@[simp] theorem State.sampleIe_trapSinceRim (s : State) : s.sampleIe.2.trapSinceRim = s.trapSinceRim := by unfold State.sampleIe; split <;> simp

/-! ### Fetch -/

@[simp] theorem State.fetch_a (s : State) : s.fetch.2.a = s.a := by unfold State.fetch; by_cases h1 : opcodeLength (s.memRead s.pc).1 = 1 <;> by_cases h2 : opcodeLength (s.memRead s.pc).1 = 2 <;> simp [h1, h2]
@[simp] theorem State.fetch_b (s : State) : s.fetch.2.b = s.b := by unfold State.fetch; by_cases h1 : opcodeLength (s.memRead s.pc).1 = 1 <;> by_cases h2 : opcodeLength (s.memRead s.pc).1 = 2 <;> simp [h1, h2]
@[simp] theorem State.fetch_c (s : State) : s.fetch.2.c = s.c := by unfold State.fetch; by_cases h1 : opcodeLength (s.memRead s.pc).1 = 1 <;> by_cases h2 : opcodeLength (s.memRead s.pc).1 = 2 <;> simp [h1, h2]
@[simp] theorem State.fetch_d (s : State) : s.fetch.2.d = s.d := by unfold State.fetch; by_cases h1 : opcodeLength (s.memRead s.pc).1 = 1 <;> by_cases h2 : opcodeLength (s.memRead s.pc).1 = 2 <;> simp [h1, h2]
@[simp] theorem State.fetch_e (s : State) : s.fetch.2.e = s.e := by unfold State.fetch; by_cases h1 : opcodeLength (s.memRead s.pc).1 = 1 <;> by_cases h2 : opcodeLength (s.memRead s.pc).1 = 2 <;> simp [h1, h2]
@[simp] theorem State.fetch_h (s : State) : s.fetch.2.h = s.h := by unfold State.fetch; by_cases h1 : opcodeLength (s.memRead s.pc).1 = 1 <;> by_cases h2 : opcodeLength (s.memRead s.pc).1 = 2 <;> simp [h1, h2]
@[simp] theorem State.fetch_l (s : State) : s.fetch.2.l = s.l := by unfold State.fetch; by_cases h1 : opcodeLength (s.memRead s.pc).1 = 1 <;> by_cases h2 : opcodeLength (s.memRead s.pc).1 = 2 <;> simp [h1, h2]
@[simp] theorem State.fetch_flags (s : State) : s.fetch.2.flags = s.flags := by unfold State.fetch; by_cases h1 : opcodeLength (s.memRead s.pc).1 = 1 <;> by_cases h2 : opcodeLength (s.memRead s.pc).1 = 2 <;> simp [h1, h2]
@[simp] theorem State.fetch_sp (s : State) : s.fetch.2.sp = s.sp := by unfold State.fetch; by_cases h1 : opcodeLength (s.memRead s.pc).1 = 1 <;> by_cases h2 : opcodeLength (s.memRead s.pc).1 = 2 <;> simp [h1, h2]
@[simp] theorem State.fetch_pc (s : State) : s.fetch.2.pc = s.pc := by unfold State.fetch; by_cases h1 : opcodeLength (s.memRead s.pc).1 = 1 <;> by_cases h2 : opcodeLength (s.memRead s.pc).1 = 2 <;> simp [h1, h2]
@[simp] theorem State.fetch_ie (s : State) : s.fetch.2.ie = s.ie := by unfold State.fetch; by_cases h1 : opcodeLength (s.memRead s.pc).1 = 1 <;> by_cases h2 : opcodeLength (s.memRead s.pc).1 = 2 <;> simp [h1, h2]
@[simp] theorem State.fetch_m75 (s : State) : s.fetch.2.m75 = s.m75 := by unfold State.fetch; by_cases h1 : opcodeLength (s.memRead s.pc).1 = 1 <;> by_cases h2 : opcodeLength (s.memRead s.pc).1 = 2 <;> simp [h1, h2]
@[simp] theorem State.fetch_m65 (s : State) : s.fetch.2.m65 = s.m65 := by unfold State.fetch; by_cases h1 : opcodeLength (s.memRead s.pc).1 = 1 <;> by_cases h2 : opcodeLength (s.memRead s.pc).1 = 2 <;> simp [h1, h2]
@[simp] theorem State.fetch_m55 (s : State) : s.fetch.2.m55 = s.m55 := by unfold State.fetch; by_cases h1 : opcodeLength (s.memRead s.pc).1 = 1 <;> by_cases h2 : opcodeLength (s.memRead s.pc).1 = 2 <;> simp [h1, h2]
@[simp] theorem State.fetch_r75 (s : State) : s.fetch.2.r75 = s.r75 := by unfold State.fetch; by_cases h1 : opcodeLength (s.memRead s.pc).1 = 1 <;> by_cases h2 : opcodeLength (s.memRead s.pc).1 = 2 <;> simp [h1, h2]
@[simp] theorem State.fetch_sod (s : State) : s.fetch.2.sod = s.sod := by unfold State.fetch; by_cases h1 : opcodeLength (s.memRead s.pc).1 = 1 <;> by_cases h2 : opcodeLength (s.memRead s.pc).1 = 2 <;> simp [h1, h2]
@[simp] theorem State.fetch_halted (s : State) : s.fetch.2.halted = s.halted := by unfold State.fetch; by_cases h1 : opcodeLength (s.memRead s.pc).1 = 1 <;> by_cases h2 : opcodeLength (s.memRead s.pc).1 = 2 <;> simp [h1, h2]
@[simp] theorem State.fetch_eiShadow (s : State) : s.fetch.2.eiShadow = s.eiShadow := by unfold State.fetch; by_cases h1 : opcodeLength (s.memRead s.pc).1 = 1 <;> by_cases h2 : opcodeLength (s.memRead s.pc).1 = 2 <;> simp [h1, h2]
@[simp] theorem State.fetch_mem (s : State) : s.fetch.2.mem = s.mem := by unfold State.fetch; by_cases h1 : opcodeLength (s.memRead s.pc).1 = 1 <;> by_cases h2 : opcodeLength (s.memRead s.pc).1 = 2 <;> simp [h1, h2]
@[simp] theorem State.fetch_params (s : State) : s.fetch.2.params = s.params := by unfold State.fetch; by_cases h1 : opcodeLength (s.memRead s.pc).1 = 1 <;> by_cases h2 : opcodeLength (s.memRead s.pc).1 = 2 <;> simp [h1, h2]
@[simp] theorem State.fetch_now (s : State) : s.fetch.2.now = s.now := by unfold State.fetch; by_cases h1 : opcodeLength (s.memRead s.pc).1 = 1 <;> by_cases h2 : opcodeLength (s.memRead s.pc).1 = 2 <;> simp [h1, h2]
@[simp] theorem State.fetch_env (s : State) : s.fetch.2.env = s.env := by unfold State.fetch; by_cases h1 : opcodeLength (s.memRead s.pc).1 = 1 <;> by_cases h2 : opcodeLength (s.memRead s.pc).1 = 2 <;> simp [h1, h2]
@[simp] theorem State.fetch_trapSinceRim (s : State) : s.fetch.2.trapSinceRim = s.trapSinceRim := by unfold State.fetch; by_cases h1 : opcodeLength (s.memRead s.pc).1 = 1 <;> by_cases h2 : opcodeLength (s.memRead s.pc).1 = 2 <;> simp [h1, h2]

/-! ### The outcomes of each operation, once -/

/-- A read of a cell that holds a value gives it and changes nothing. -/
theorem State.memRead_of_cell {s : State} {addr : Word} {v : Byte}
    (hr : regionOf s.params addr = Region.ram ∨ regionOf s.params addr = Region.rom)
    (hv : Memory.get? s.mem addr.toNat = some v) : s.memRead addr = (v, s) := by
  rcases hr with h | h <;> simp [State.memRead, h, hv]

/-- Everything a memory read can do (`20_memory.md` R66). -/
theorem State.memRead_cases (addr : Word) (s : State) :
    (∃ v, Memory.get? s.mem addr.toNat = some v ∧ s.memRead addr = (v, s)) ∨
    s.memRead addr = s.drawByte ∨
    s.memRead addr = (s.envAnswer.1, s.envAnswer.2.record (.deviceRead addr s.envAnswer.1)) := by
  unfold State.memRead
  split
  · split
    · rename_i v hv
      exact .inl ⟨v, hv, rfl⟩
    · exact .inr (.inl rfl)
  · split
    · rename_i v hv
      exact .inl ⟨v, hv, rfl⟩
    · exact .inr (.inl rfl)
  · exact .inr (.inl rfl)
  · exact .inr (.inr rfl)

/-- Everything a memory write can do (`20_memory.md` R66). -/
theorem State.memWrite_cases (addr : Word) (v : Byte) (s : State) :
    (regionOf s.params addr = Region.ram ∧ s.memWrite addr v = { s with mem := Memory.set s.mem addr.toNat v }) ∨
    ((regionOf s.params addr = Region.rom ∨ regionOf s.params addr = Region.absent) ∧ s.memWrite addr v = s) ∨
    (regionOf s.params addr = Region.device ∧ s.memWrite addr v = s.record (.deviceWrite addr v)) := by
  cases h : regionOf s.params addr <;> simp [State.memWrite, h]

/-- A write leaves what every other cell holds. -/
theorem State.memWrite_get?_ne {addr x : Word} (h : x ≠ addr) (v : Byte) (s : State) :
    Memory.get? (s.memWrite addr v).mem x.toNat = Memory.get? s.mem x.toNat := by
  have hx : x.toNat ≠ addr.toNat := fun e => h (BitVec.eq_of_toNat_eq e)
  rcases State.memWrite_cases addr v s with ⟨-, e⟩ | ⟨-, e⟩ | ⟨-, e⟩ <;> simp [e, Memory.get?_set_ne _ _ hx]

/-- A write keeps the canonical form of the memory. -/
theorem State.memWrite_wf (addr : Word) (v : Byte) {s : State} (h : Memory.wf s.mem = true) :
    Memory.wf (s.memWrite addr v).mem = true := by
  rcases State.memWrite_cases addr v s with ⟨-, e⟩ | ⟨-, e⟩ | ⟨-, e⟩
  · simpa [e] using Memory.wf_set h addr.isLt v
  · simpa [e] using h
  · simpa [e] using h

/-- A push keeps the canonical form of the memory. -/
theorem State.push16_wf (v : Word) {s : State} (h : Memory.wf s.mem = true) :
    Memory.wf (s.push16 v).mem = true :=
  State.memWrite_wf _ _ (State.memWrite_wf _ _ h)

/-- A push leaves every cell but the two it stores to. -/
theorem State.push16_get?_ne {x : Word} (s : State) (h1 : x ≠ s.sp - 1#16) (h2 : x ≠ s.sp - 2#16) (v : Word) :
    Memory.get? (s.push16 v).mem x.toNat = Memory.get? s.mem x.toNat := by
  show Memory.get? ((s.memWrite (s.sp - 1#16) (hiByte v)).memWrite (s.sp - 2#16) (loByte v)).mem x.toNat = _
  rw [State.memWrite_get?_ne h2, State.memWrite_get?_ne h1]

/-- An operand write keeps the canonical form of the memory. -/
theorem State.wr8_wf (o : Operand8) (v : Byte) {s : State} (h : Memory.wf s.mem = true) :
    Memory.wf (s.wr8 o v).mem = true := by
  cases o with
  | reg r => simpa [State.wr8] using h
  | m => exact State.memWrite_wf _ _ h

/-- The bytes a read may append to the record: none or one. -/
theorem State.memRead_log (addr : Word) (s : State) :
    (s.memRead addr).2.log = s.log ∨ ∃ v, (s.memRead addr).2.log = s.log ++ [.deviceRead addr v] := by
  rcases State.memRead_cases addr s with ⟨v, -, e⟩ | e | e
  · exact .inl (by rw [e])
  · exact .inl (by rw [e]; rfl)
  · exact .inr ⟨s.envAnswer.1, by rw [e]; simp⟩

/-- Everything a boundary can accept (`60_exceptions.md` R252, R254): the source, with all that stood before it absent. -/
theorem State.acceptable_cases (s : State) :
    (s.acceptable = some .trap ∧ s.now.trap = true) ∨
    (s.acceptable = some .rst75 ∧ s.now.trap = false ∧ (s.r75 && !s.m75 && s.enabled) = true) ∨
    (s.acceptable = some .rst65 ∧ s.now.trap = false ∧ (s.r75 && !s.m75 && s.enabled) = false ∧
      (s.now.l65 && !s.m65 && s.enabled) = true) ∨
    (s.acceptable = some .rst55 ∧ s.now.trap = false ∧ (s.r75 && !s.m75 && s.enabled) = false ∧
      (s.now.l65 && !s.m65 && s.enabled) = false ∧ (s.now.l55 && !s.m55 && s.enabled) = true) ∨
    (s.acceptable = some .intr ∧ s.now.trap = false ∧ (s.r75 && !s.m75 && s.enabled) = false ∧
      (s.now.l65 && !s.m65 && s.enabled) = false ∧ (s.now.l55 && !s.m55 && s.enabled) = false ∧
      (s.now.intr && s.enabled) = true) ∨
    (s.acceptable = none ∧ s.now.trap = false ∧ (s.r75 && !s.m75 && s.enabled) = false ∧
      (s.now.l65 && !s.m65 && s.enabled) = false ∧ (s.now.l55 && !s.m55 && s.enabled) = false ∧
      (s.now.intr && s.enabled) = false) := by
  unfold State.acceptable
  cases s.now.trap <;> cases (s.r75 && !s.m75 && s.enabled) <;> cases (s.now.l65 && !s.m65 && s.enabled) <;>
    cases (s.now.l55 && !s.m55 && s.enabled) <;> cases (s.now.intr && s.enabled) <;> simp

/-- Everything the INTR acknowledge can do (`60_exceptions.md` R258): a call from `pc`, or the refusal by name. -/
theorem State.acknowledge_cases (s : State) :
    (∃ k target, s.acknowledge = .next ({ s with draws := k }.callTo s.pc target) ∧ s.draws ≤ k) ∨
    (∃ op, s.acknowledge = .refused (.intaOpcode op)) := by
  unfold State.acknowledge
  split
  · exact .inl ⟨_, _, rfl, Nat.le_succ _⟩
  · split
    · exact .inl ⟨s.draws, _, rfl, Nat.le_refl _⟩
    · exact .inl ⟨s.draws, _, rfl, Nat.le_refl _⟩
    · exact .inr ⟨_, rfl⟩

/-- Everything the acceptance of an interrupt can do: a call from `pc`, or (INTR only) the refusal by name. -/
theorem State.takeInterrupt_cases (src : Source) (s : State) :
    (∃ k target, s.takeInterrupt src = .next ({ s.accepting src with draws := k }.callTo s.pc target) ∧ s.draws ≤ k ∧
      ∀ entry, src.entry = some entry → target = entry) ∨
    (src = .intr ∧ ∃ op, s.takeInterrupt src = .refused (.intaOpcode op)) := by
  cases src
  case intr =>
    rcases (s.accepting .intr).acknowledge_cases with ⟨k, target, e, hk⟩ | ⟨op, e⟩
    · exact .inl ⟨k, target, e, hk, by simp [Source.entry]⟩
    · exact .inr ⟨rfl, op, e⟩
  all_goals exact .inl ⟨s.draws, _, rfl, Nat.le_refl _, by simp [Source.entry]⟩

end Sys2Proof.Machine
end

