-- ==== Sys2Proof/Laws/Operands.lean ====
section
/-! SUPPORT. What each operand form and each conditional transfer can do, once. -/
namespace Sys2Proof.Machine

/-- The environment's answer: the head of its queue, or a free byte. -/
theorem State.envAnswer_cases (s : State) :
    (∃ v rest, s.answers = v :: rest ∧ s.envAnswer = (v, { s with answers := rest })) ∨
    (s.answers = [] ∧ s.envAnswer = s.drawByte) := by
  cases h : s.answers with
  | nil => exact .inr ⟨rfl, by simp [State.envAnswer, h]⟩
  | cons v rest => exact .inl ⟨v, rest, rfl, by simp [State.envAnswer, h]⟩

/-- An operand read: a register with no effect, or the memory byte at HL. -/
theorem State.rd8_cases (o : Operand8) (s : State) :
    (∃ r, o = .reg r ∧ s.rd8 o = (s.getReg r, s)) ∨ (o = .m ∧ s.rd8 o = s.memRead s.hl) := by
  cases o with
  | reg r => exact .inl ⟨r, rfl, rfl⟩
  | m => exact .inr ⟨rfl, rfl⟩

/-- An operand write: a register, or the memory byte at HL. -/
theorem State.wr8_cases (o : Operand8) (v : Byte) (s : State) :
    (∃ r, o = .reg r ∧ s.wr8 o v = s.setReg r v) ∨ (o = .m ∧ s.wr8 o v = s.memWrite s.hl v) := by
  cases o with
  | reg r => exact .inl ⟨r, rfl, rfl⟩
  | m => exact .inr ⟨rfl, rfl⟩

/-- A conditional jump: the target, or the next instruction (`44_conditional_branch.md` R201). -/
theorem State.jumpIf_cases (cond : Cond) (a16 : Word) (s : State) :
    (s.flags.holds cond = true ∧ s.jumpIf cond a16 = { s with pc := a16 }) ∨
    (s.flags.holds cond = false ∧ s.jumpIf cond a16 = s.advance 3#16) := by
  cases h : s.flags.holds cond <;> simp [State.jumpIf, h]

/-- A conditional call: a call, or the next instruction (R210). -/
theorem State.callIf_cases (cond : Cond) (a16 : Word) (s : State) :
    (s.flags.holds cond = true ∧ s.callIf cond a16 = s.callTo (s.next 3#16) a16) ∨
    (s.flags.holds cond = false ∧ s.callIf cond a16 = s.advance 3#16) := by
  cases h : s.flags.holds cond <;> simp [State.callIf, h]

/-- A conditional return: a return, or the next instruction (R219). -/
theorem State.returnIf_cases (cond : Cond) (s : State) :
    (s.flags.holds cond = true ∧ s.returnIf cond = s.returnFrom) ∨
    (s.flags.holds cond = false ∧ s.returnIf cond = s.advance 1#16) := by
  cases h : s.flags.holds cond <;> simp [State.returnIf, h]

/-- A pop from two cells that hold bytes gives their word and changes SP only (`20_memory.md` R54). -/
theorem State.pop16_of_cells {s : State} {lo hi : Byte}
    (hlr : regionOf s.params s.sp = .ram ∨ regionOf s.params s.sp = .rom)
    (hhr : regionOf s.params (s.sp + 1#16) = .ram ∨ regionOf s.params (s.sp + 1#16) = .rom)
    (hl : Memory.get? s.mem s.sp.toNat = some lo) (hh : Memory.get? s.mem (s.sp + 1#16).toNat = some hi) :
    s.pop16 = (joinBytes hi lo, { s with sp := s.sp + 2#16 }) := by
  simp only [State.pop16, State.memRead_of_cell hlr hl, State.memRead_of_cell hhr hh]

end Sys2Proof.Machine
end

