-- ==== Sys2Proof/Laws/Step.lean ====
section
/-! SUPPORT. What one step can do, once: the inversion of `step`. -/
namespace Sys2Proof.Machine

/-- A step that answers a next state resets, accepts an interrupt, idles in the halt state, or executes the
instruction it fetched (`60_exceptions.md` R255). -/
theorem step_cases {s t : State} (h : step s = .next t) :
    (s.sample.now.reset = true ∧ t = s.sample.systemReset) ∨
    (∃ src, s.sample.now.reset = false ∧ s.sample.acceptable = some src ∧ s.sample.takeInterrupt src = .next t) ∨
    (s.sample.now.reset = false ∧ s.sample.acceptable = none ∧ s.halted = true ∧ t = s.sample) ∨
    (∃ i, s.Executes ∧ decodeBytes s.sample.fetch.1.1 s.sample.fetch.1.2.1 s.sample.fetch.1.2.2 = some i ∧
      exec i { s.sample.fetch.2 with eiShadow := false } = .next t) := by
  simp only [step] at h
  by_cases hr : s.sample.now.reset = true
  · rw [if_pos hr] at h
    exact .inl ⟨hr, (Host.Outcome.next.inj h).symm⟩
  · rw [if_neg hr] at h
    have hr' : s.sample.now.reset = false := by simpa using hr
    cases ha : s.sample.acceptable with
    | some src =>
      rw [ha] at h
      exact .inr (.inl ⟨src, hr', rfl, h⟩)
    | none =>
      rw [ha] at h
      by_cases hh : s.sample.halted = true
      · simp only [if_pos hh] at h
        exact .inr (.inr (.inl ⟨hr', rfl, hh, (Host.Outcome.next.inj h).symm⟩))
      · simp only [if_neg hh, State.runInstruction] at h
        split at h
        · rename_i i hi
          exact .inr (.inr (.inr ⟨i, ⟨hr', ha, by simpa using hh⟩, hi, h⟩))
        · cases h

end Sys2Proof.Machine
end

