-- ==== Sys2Proof/Tests/Slice0.lean ====
section
/-! SUPPORT. Named tests: ill-formed terms, words written out from the encodings, vectors of `95_test_vectors.md`
(each test is named after its vector), and for each obligation with hypotheses a state that meets them. -/
namespace Sys2Proof.Tests
open Sys2Proof.Machine

/-- The state after reset with `pc`, SP = 0x2400, code at `pc` and further memory cells. -/
def start (pc : Word) (code : List Byte) (cells : List (Word × Byte)) : State :=
  { State.reset with
    pc := pc, sp := 0x2400#16
    mem := cells.foldl (fun m p => Memory.set m p.1.toNat p.2) (Memory.place [] pc code) }

/-- What a memory cell holds. -/
def cell (s : State) (a : Word) : Option Byte := Memory.get? s.mem a.toNat

/-- One step answers a next state of which `p` holds. -/
def goes (s : State) (p : State → Bool) : Bool :=
  match step s with
  | .next t => p t
  | _ => false

/-- The bytes decode to the instruction, nothing left over. -/
def decodesTo (p : List Byte × Instr) : Bool := decide (decode p.1 = .ok (p.2, []))

/-! ### Syntax, decoding and encoding -/

/-- There is no memory-to-memory MOV (R95); every other pair of operands is an instruction. -/
theorem test_wf_refuses_mov_m_m : Instr.wf (.mov .m .m) = false := by decide

theorem test_wf_accepts : (Instr.wf (.mov .m (.reg .a)) && Instr.wf (.mov (.reg .a) .m) && Instr.wf .hlt) = true := by decide

/-- Words of the family, one for each instruction, written out from the encodings of R83 and R88 with the codes of R84 to R87. -/
theorem test_decode_data_transfer : ∀ p ∈ ([
    ([0b01100111#8], .mov (.reg .h) (.reg .a)),
    ([0b00011110#8, 0x5A#8], .mvi (.reg .e) 0x5A#8),
    ([0b00110001#8, 0x34#8, 0x12#8], .lxi .sp 0x1234#16),
    ([0b00111010#8, 0x34#8, 0x12#8], .lda 0x1234#16),
    ([0b00110010#8, 0x34#8, 0x12#8], .sta 0x1234#16),
    ([0b00101010#8, 0x34#8, 0x12#8], .lhld 0x1234#16),
    ([0b00100010#8, 0x34#8, 0x12#8], .shld 0x1234#16),
    ([0b00001010#8], .ldax .bc),
    ([0b00010010#8], .stax .de),
    ([0b11101011#8], .xchg)] : List (List Byte × Instr)), decodesTo p = true := by decide

/-- Words of the family, one for each instruction, written out from the encodings of R83 and R88 with the codes of R84 to R87. -/
theorem test_decode_arithmetic : ∀ p ∈ ([
    ([0b10000011#8], .add (.reg .e)),
    ([0b10001110#8], .adc (.m)),
    ([0b11001110#8, 0x5A#8], .aci 0x5A#8),
    ([0b11000110#8, 0x5A#8], .adi 0x5A#8),
    ([0b10011111#8], .sbb (.reg .a)),
    ([0b10010010#8], .sub (.reg .d)),
    ([0b11011110#8, 0x5A#8], .sbi 0x5A#8),
    ([0b11010110#8, 0x5A#8], .sui 0x5A#8),
    ([0b00000100#8], .inr (.reg .b)),
    ([0b00101101#8], .dcr (.reg .l)),
    ([0b00010011#8], .inx .de),
    ([0b00101011#8], .dcx .hl),
    ([0b00100111#8], .daa),
    ([0b00001001#8], .dad .bc)] : List (List Byte × Instr)), decodesTo p = true := by decide

/-- Words of the family, one for each instruction, written out from the encodings of R83 and R88 with the codes of R84 to R87. -/
theorem test_decode_logical : ∀ p ∈ ([
    ([0b10100101#8], .ana (.reg .l)),
    ([0b11100110#8, 0x5A#8], .ani 0x5A#8),
    ([0b10110011#8], .ora (.reg .e)),
    ([0b11110110#8, 0x5A#8], .ori 0x5A#8),
    ([0b10101001#8], .xra (.reg .c)),
    ([0b11101110#8, 0x5A#8], .xri 0x5A#8),
    ([0b00101111#8], .cma),
    ([0b10111010#8], .cmp (.reg .d)),
    ([0b11111110#8, 0x5A#8], .cpi 0x5A#8),
    ([0b00111111#8], .cmc),
    ([0b00110111#8], .stc),
    ([0b00000111#8], .rlc),
    ([0b00010111#8], .ral),
    ([0b00001111#8], .rrc),
    ([0b00011111#8], .rar)] : List (List Byte × Instr)), decodesTo p = true := by decide

/-- Words of the family, one for each instruction, written out from the encodings of R83 and R88 with the codes of R84 to R87. -/
theorem test_decode_branch : ∀ p ∈ ([
    ([0b11000011#8, 0x34#8, 0x12#8], .jmp 0x1234#16),
    ([0b11101001#8], .pchl),
    ([0b11001101#8, 0x34#8, 0x12#8], .call 0x1234#16),
    ([0b11001001#8], .ret),
    ([0b11100011#8], .xthl)] : List (List Byte × Instr)), decodesTo p = true := by decide

/-- Words of the family, one for each instruction, written out from the encodings of R83 and R88 with the codes of R84 to R87. -/
theorem test_decode_conditional : ∀ p ∈ ([
    ([0b11000010#8, 0x34#8, 0x12#8], .jnz 0x1234#16),
    ([0b11001010#8, 0x34#8, 0x12#8], .jz 0x1234#16),
    ([0b11010010#8, 0x34#8, 0x12#8], .jnc 0x1234#16),
    ([0b11011010#8, 0x34#8, 0x12#8], .jc 0x1234#16),
    ([0b11100010#8, 0x34#8, 0x12#8], .jpo 0x1234#16),
    ([0b11101010#8, 0x34#8, 0x12#8], .jpe 0x1234#16),
    ([0b11110010#8, 0x34#8, 0x12#8], .jp 0x1234#16),
    ([0b11111010#8, 0x34#8, 0x12#8], .jm 0x1234#16),
    ([0b11000100#8, 0x34#8, 0x12#8], .cnz 0x1234#16),
    ([0b11001100#8, 0x34#8, 0x12#8], .cz 0x1234#16),
    ([0b11010100#8, 0x34#8, 0x12#8], .cnc 0x1234#16),
    ([0b11011100#8, 0x34#8, 0x12#8], .cc 0x1234#16),
    ([0b11100100#8, 0x34#8, 0x12#8], .cpo 0x1234#16),
    ([0b11101100#8, 0x34#8, 0x12#8], .cpe 0x1234#16),
    ([0b11110100#8, 0x34#8, 0x12#8], .cp 0x1234#16),
    ([0b11111100#8, 0x34#8, 0x12#8], .cm 0x1234#16),
    ([0b11000000#8], .rnz),
    ([0b11001000#8], .rz),
    ([0b11010000#8], .rnc),
    ([0b11011000#8], .rc),
    ([0b11100000#8], .rpo),
    ([0b11101000#8], .rpe),
    ([0b11110000#8], .rp),
    ([0b11111000#8], .rm)] : List (List Byte × Instr)), decodesTo p = true := by decide

/-- Words of the family, one for each instruction, written out from the encodings of R83 and R88 with the codes of R84 to R87. -/
theorem test_decode_stack_io_machine : ∀ p ∈ ([
    ([0b00000000#8], .nop),
    ([0b01110110#8], .hlt),
    ([0b11110101#8], .push .psw),
    ([0b11000001#8], .pop .bc),
    ([0b11011111#8], .rst 0b011#3),
    ([0b11111001#8], .sphl),
    ([0b11011011#8, 0x5A#8], .inp 0x5A#8),
    ([0b11010011#8, 0x5A#8], .out 0x5A#8),
    ([0b11111011#8], .ei),
    ([0b11110011#8], .di),
    ([0b00100000#8], .rim),
    ([0b00110000#8], .sim)] : List (List Byte × Instr)), decodesTo p = true := by decide

/-- The word of MOV M,M is HLT's (R95). -/
theorem test_decode_0x76_is_hlt : decodesTo ([0b01110110#8], .hlt) = true := by decide

theorem test_decode_refuses_undefined : decode [0xCB#8, 0x00#8, 0x20#8] = .error (.undefinedOpcode 0xCB#8) := by decide

theorem test_decode_refuses_short : decode [0x3A#8, 0x50#8] = .error .tooShort := by decide

theorem test_decode_leaves_the_rest : decode [0xC6#8, 0x42#8, 0x76#8] = .ok (.adi 0x42#8, [0x76#8]) := by decide

theorem test_table_word : decodeTableWord 24 0x205021 = some (.lxi .hl 0x2050#16) := by decide

theorem test_table_word_without_operand_bits : decodeTableWord 8 0x3A = some (.lda 0x0000#16) := by decide

theorem test_withFetchWord_runs : goes (State.reset.withFetchWord 16 0x423E) (fun t => t.a == 0x42#8 && t.pc == 0x0002#16) = true := by
  decide

/-! ### Vectors of `95_test_vectors.md`, one step each -/

theorem test_V2_mov : goes { start 0x2000#16 [0x77#8] [] with a := 0x3C#8, h := 0x20#8, l := 0x50#8, flags := ⟨true, false, true, false, true⟩ }
    (fun t => cell t 0x2050#16 == some 0x3C#8 && t.a == 0x3C#8 && t.pc == 0x2001#16 && t.flags == ⟨true, false, true, false, true⟩) = true := by decide

theorem test_V3_mov : goes { start 0x2000#16 [0x7E#8] [(0x2050#16, 0x9F#8)] with h := 0x20#8, l := 0x50#8, flags := ⟨true, false, true, false, true⟩ }
    (fun t => t.a == 0x9F#8 && cell t 0x2050#16 == some 0x9F#8 && t.pc == 0x2001#16 && t.flags == ⟨true, false, true, false, true⟩) = true := by decide

theorem test_V6_mvi : goes { start 0x2000#16 [0x36#8, 0xFF#8] [] with h := 0xFF#8, l := 0xFF#8, flags := ⟨true, false, true, false, true⟩ }
    (fun t => cell t 0xFFFF#16 == some 0xFF#8 && t.pc == 0x2002#16 && t.flags == ⟨true, false, true, false, true⟩) = true := by decide

theorem test_V5_mvi : goes { start 0x2000#16 [0x16#8, 0x7F#8] [] with flags := ⟨true, false, true, false, true⟩ }
    (fun t => t.d == 0x7F#8 && t.pc == 0x2002#16 && t.flags == ⟨true, false, true, false, true⟩) = true := by decide

theorem test_V7_lxi : goes { start 0x2000#16 [0x31#8, 0x00#8, 0x24#8] [] with flags := ⟨true, false, true, false, true⟩ }
    (fun t => t.sp == 0x2400#16 && t.pc == 0x2003#16 && t.flags == ⟨true, false, true, false, true⟩) = true := by decide

theorem test_V8_lxi : goes { start 0x2000#16 [0x21#8, 0x34#8, 0x12#8] [] with flags := ⟨true, false, true, false, true⟩ }
    (fun t => t.h == 0x12#8 && t.l == 0x34#8 && t.pc == 0x2003#16 && t.flags == ⟨true, false, true, false, true⟩) = true := by decide

theorem test_V9_lda : goes { start 0x2000#16 [0x3A#8, 0x50#8, 0x20#8] [(0x2050#16, 0xE1#8)] with flags := ⟨true, false, true, false, true⟩ }
    (fun t => t.a == 0xE1#8 && t.pc == 0x2003#16 && t.flags == ⟨true, false, true, false, true⟩) = true := by decide

theorem test_V10_sta : goes { start 0x2000#16 [0x32#8, 0xFF#8, 0xFF#8] [] with a := 0x42#8, flags := ⟨true, false, true, false, true⟩ }
    (fun t => cell t 0xFFFF#16 == some 0x42#8 && t.pc == 0x2003#16 && t.flags == ⟨true, false, true, false, true⟩) = true := by decide

theorem test_V11_lhld : goes { start 0x2000#16 [0x2A#8, 0xFF#8, 0xFF#8] [(0xFFFF#16, 0x11#8), (0x0000#16, 0x22#8)] with flags := ⟨true, false, true, false, true⟩ }
    (fun t => t.l == 0x11#8 && t.h == 0x22#8 && t.pc == 0x2003#16 && t.flags == ⟨true, false, true, false, true⟩) = true := by decide

theorem test_V12_shld : goes { start 0x2000#16 [0x22#8, 0x54#8, 0x20#8] [] with h := 0xAB#8, l := 0xCD#8, flags := ⟨true, false, true, false, true⟩ }
    (fun t => cell t 0x2054#16 == some 0xCD#8 && cell t 0x2055#16 == some 0xAB#8 && t.hl == 0xABCD#16 && t.pc == 0x2003#16 && t.flags == ⟨true, false, true, false, true⟩) = true := by decide

theorem test_V13_ldax : goes { start 0x2000#16 [0x0A#8] [(0x3000#16, 0x66#8)] with b := 0x30#8, c := 0x00#8, flags := ⟨true, false, true, false, true⟩ }
    (fun t => t.a == 0x66#8 && t.bc == 0x3000#16 && t.pc == 0x2001#16 && t.flags == ⟨true, false, true, false, true⟩) = true := by decide

theorem test_V14_ldax : goes { start 0x2000#16 [0x1A#8] [(0x3001#16, 0x67#8)] with d := 0x30#8, e := 0x01#8, flags := ⟨true, false, true, false, true⟩ }
    (fun t => t.a == 0x67#8 && t.pc == 0x2001#16 && t.flags == ⟨true, false, true, false, true⟩) = true := by decide

theorem test_V15_stax : goes { start 0x2000#16 [0x02#8] [] with a := 0x12#8, b := 0x30#8, c := 0x02#8, flags := ⟨true, false, true, false, true⟩ }
    (fun t => cell t 0x3002#16 == some 0x12#8 && t.pc == 0x2001#16 && t.flags == ⟨true, false, true, false, true⟩) = true := by decide

theorem test_V16_stax : goes { start 0x2000#16 [0x12#8] [] with a := 0x13#8, d := 0x30#8, e := 0x03#8, flags := ⟨true, false, true, false, true⟩ }
    (fun t => cell t 0x3003#16 == some 0x13#8 && t.pc == 0x2001#16 && t.flags == ⟨true, false, true, false, true⟩) = true := by decide

theorem test_V17_xchg : goes { start 0x2000#16 [0xEB#8] [] with h := 0x12#8, l := 0x34#8, d := 0xAB#8, e := 0xCD#8, flags := ⟨true, false, true, false, true⟩ }
    (fun t => t.hl == 0xABCD#16 && t.de == 0x1234#16 && t.pc == 0x2001#16 && t.flags == ⟨true, false, true, false, true⟩) = true := by decide

theorem test_V20_add : goes { start 0x2000#16 [0x80#8] [] with a := 0x3A#8, b := 0xC6#8, flags := ⟨true, false, true, false, true⟩ }
    (fun t => t.a == 0x00#8 && t.pc == 0x2001#16 && t.flags == ⟨false, true, true, true, true⟩) = true := by decide

theorem test_V23_add : goes { start 0x2000#16 [0x86#8] [(0x2050#16, 0x22#8)] with a := 0x14#8, h := 0x20#8, l := 0x50#8, flags := ⟨true, false, true, false, true⟩ }
    (fun t => t.a == 0x36#8 && t.pc == 0x2001#16 && t.flags == ⟨false, false, false, true, false⟩) = true := by decide

theorem test_V24_adc : goes { start 0x2000#16 [0x89#8] [] with a := 0xFF#8, c := 0x00#8, flags := ⟨true, false, true, false, true⟩ }
    (fun t => t.a == 0x00#8 && t.pc == 0x2001#16 && t.flags == ⟨false, true, true, true, true⟩) = true := by decide

theorem test_V22_adi : goes { start 0x2000#16 [0xC6#8, 0x01#8] [] with a := 0x7F#8, flags := ⟨true, false, true, false, true⟩ }
    (fun t => t.a == 0x80#8 && t.pc == 0x2002#16 && t.flags == ⟨true, false, true, false, false⟩) = true := by decide

theorem test_V25_aci : goes { start 0x2000#16 [0xCE#8, 0xFF#8] [] with a := 0x00#8, flags := ⟨true, false, true, false, true⟩ }
    (fun t => t.a == 0x00#8 && t.pc == 0x2002#16 && t.flags == ⟨false, true, true, true, true⟩) = true := by decide

theorem test_V29_sub : goes { start 0x2000#16 [0x90#8] [] with a := 0x80#8, b := 0x01#8, flags := ⟨true, false, true, false, true⟩ }
    (fun t => t.a == 0x7F#8 && t.pc == 0x2001#16 && t.flags == ⟨false, false, false, false, false⟩) = true := by decide

theorem test_V30_sbb : goes { start 0x2000#16 [0x98#8] [] with a := 0x00#8, b := 0xFF#8, flags := ⟨true, false, true, false, true⟩ }
    (fun t => t.a == 0x00#8 && t.pc == 0x2001#16 && t.flags == ⟨false, true, false, true, true⟩) = true := by decide

theorem test_V32_sbb : goes { start 0x2000#16 [0x9E#8] [(0x2050#16, 0x05#8)] with a := 0x05#8, h := 0x20#8, l := 0x50#8, flags := ⟨true, false, true, false, false⟩ }
    (fun t => t.a == 0x00#8 && t.pc == 0x2001#16 && t.flags == ⟨false, true, true, true, false⟩) = true := by decide

theorem test_V28_sui : goes { start 0x2000#16 [0xD6#8, 0x01#8] [] with a := 0x00#8, flags := ⟨true, false, true, false, true⟩ }
    (fun t => t.a == 0xFF#8 && t.pc == 0x2002#16 && t.flags == ⟨true, false, false, true, true⟩) = true := by decide

theorem test_V31_sbi : goes { start 0x2000#16 [0xDE#8, 0x00#8] [] with a := 0x10#8, flags := ⟨true, false, true, false, true⟩ }
    (fun t => t.a == 0x0F#8 && t.pc == 0x2002#16 && t.flags == ⟨false, false, false, true, false⟩) = true := by decide

theorem test_V33_inr : goes { start 0x2000#16 [0x34#8] [(0x2050#16, 0xFF#8)] with h := 0x20#8, l := 0x50#8, flags := ⟨true, false, true, false, false⟩ }
    (fun t => cell t 0x2050#16 == some 0x00#8 && t.pc == 0x2001#16 && t.flags == ⟨false, true, true, true, false⟩) = true := by decide

theorem test_V34_inr : goes { start 0x2000#16 [0x3C#8] [] with a := 0x7F#8, flags := ⟨true, false, true, false, true⟩ }
    (fun t => t.a == 0x80#8 && t.pc == 0x2001#16 && t.flags == ⟨true, false, true, false, true⟩) = true := by decide

theorem test_V37_dcr : goes { start 0x2000#16 [0x35#8] [(0x2050#16, 0x10#8)] with h := 0x20#8, l := 0x50#8, flags := ⟨true, false, true, false, false⟩ }
    (fun t => cell t 0x2050#16 == some 0x0F#8 && t.pc == 0x2001#16 && t.flags == ⟨false, false, false, true, false⟩) = true := by decide

theorem test_V36_dcr : goes { start 0x2000#16 [0x0D#8] [] with c := 0x01#8, flags := ⟨true, false, true, false, true⟩ }
    (fun t => t.c == 0x00#8 && t.pc == 0x2001#16 && t.flags == ⟨false, true, true, true, true⟩) = true := by decide

theorem test_V38_inx : goes { start 0x2000#16 [0x23#8] [] with h := 0xFF#8, l := 0xFF#8, flags := ⟨true, false, true, false, false⟩ }
    (fun t => t.hl == 0x0000#16 && t.pc == 0x2001#16 && t.flags == ⟨true, false, true, false, false⟩) = true := by decide

theorem test_V40_dcx : goes { start 0x2000#16 [0x0B#8] [] with b := 0x00#8, c := 0x00#8, flags := ⟨true, false, true, false, true⟩ }
    (fun t => t.bc == 0xFFFF#16 && t.pc == 0x2001#16 && t.flags == ⟨true, false, true, false, true⟩) = true := by decide

theorem test_V44_dad : goes { start 0x2000#16 [0x39#8] [] with h := 0xFF#8, l := 0xFF#8, sp := 0x0001#16, flags := ⟨true, false, true, false, false⟩ }
    (fun t => t.hl == 0x0000#16 && t.sp == 0x0001#16 && t.pc == 0x2001#16 && t.flags == ⟨true, false, true, false, true⟩) = true := by decide

theorem test_V43_dad : goes { start 0x2000#16 [0x09#8] [] with h := 0x12#8, l := 0x34#8, b := 0x01#8, c := 0x01#8, flags := ⟨true, false, true, false, true⟩ }
    (fun t => t.hl == 0x1335#16 && t.bc == 0x0101#16 && t.pc == 0x2001#16 && t.flags == ⟨true, false, true, false, false⟩) = true := by decide

theorem test_V45_daa : goes { start 0x2000#16 [0x27#8] [] with a := 0x9B#8, flags := ⟨true, false, false, false, false⟩ }
    (fun t => t.a == 0x01#8 && t.pc == 0x2001#16 && t.flags == ⟨false, false, true, false, true⟩) = true := by decide

theorem test_V50_daa : goes { start 0x2000#16 [0x27#8] [] with a := 0xFF#8, flags := ⟨true, false, true, false, true⟩ }
    (fun t => t.a == 0x65#8 && t.pc == 0x2001#16 && t.flags == ⟨false, false, true, true, true⟩) = true := by decide

theorem test_V60_ana : goes { start 0x2000#16 [0xA0#8] [] with a := 0xF0#8, b := 0x0F#8, flags := ⟨true, false, false, false, true⟩ }
    (fun t => t.a == 0x00#8 && t.pc == 0x2001#16 && t.flags == ⟨false, true, true, true, false⟩) = true := by decide

theorem test_V62_ani : goes { start 0x2000#16 [0xE6#8, 0x0F#8] [] with a := 0x3C#8, flags := ⟨true, false, true, false, true⟩ }
    (fun t => t.a == 0x0C#8 && t.pc == 0x2002#16 && t.flags == ⟨false, false, true, true, false⟩) = true := by decide

theorem test_V64_ora : goes { start 0x2000#16 [0xB1#8] [] with a := 0x50#8, c := 0x05#8, flags := ⟨true, false, true, false, true⟩ }
    (fun t => t.a == 0x55#8 && t.pc == 0x2001#16 && t.flags == ⟨false, false, false, true, false⟩) = true := by decide

theorem test_V66_ori : goes { start 0x2000#16 [0xF6#8, 0x80#8] [] with a := 0x01#8, flags := ⟨true, false, true, false, true⟩ }
    (fun t => t.a == 0x81#8 && t.pc == 0x2002#16 && t.flags == ⟨true, false, false, true, false⟩) = true := by decide

theorem test_V68_xra : goes { start 0x2000#16 [0xA8#8] [] with a := 0xFF#8, b := 0x0F#8, flags := ⟨true, false, true, false, true⟩ }
    (fun t => t.a == 0xF0#8 && t.pc == 0x2001#16 && t.flags == ⟨true, false, false, true, false⟩) = true := by decide

theorem test_V69_xri : goes { start 0x2000#16 [0xEE#8, 0xFF#8] [] with a := 0x55#8, flags := ⟨true, false, true, false, true⟩ }
    (fun t => t.a == 0xAA#8 && t.pc == 0x2002#16 && t.flags == ⟨true, false, false, true, false⟩) = true := by decide

theorem test_V70_cma : goes { start 0x2000#16 [0x2F#8] [] with a := 0x51#8, flags := ⟨true, true, true, false, true⟩ }
    (fun t => t.a == 0xAE#8 && t.pc == 0x2001#16 && t.flags == ⟨true, true, true, false, true⟩) = true := by decide

theorem test_V72_cmp : goes { start 0x2000#16 [0xB8#8] [] with a := 0x10#8, b := 0x20#8, flags := ⟨true, false, true, false, true⟩ }
    (fun t => t.a == 0x10#8 && t.b == 0x20#8 && t.pc == 0x2001#16 && t.flags == ⟨true, false, true, true, true⟩) = true := by decide

theorem test_V75_cmp : goes { start 0x2000#16 [0xBE#8] [(0x2050#16, 0xFF#8)] with a := 0x00#8, h := 0x20#8, l := 0x50#8, flags := ⟨true, false, true, false, true⟩ }
    (fun t => t.a == 0x00#8 && cell t 0x2050#16 == some 0xFF#8 && t.pc == 0x2001#16 && t.flags == ⟨false, false, false, false, true⟩) = true := by decide

theorem test_V76_cpi : goes { start 0x2000#16 [0xFE#8, 0x40#8] [] with a := 0x3F#8, flags := ⟨true, false, true, false, true⟩ }
    (fun t => t.a == 0x3F#8 && t.pc == 0x2002#16 && t.flags == ⟨true, false, true, true, true⟩) = true := by decide

theorem test_V79_cmc : goes { start 0x2000#16 [0x3F#8] [] with flags := ⟨true, true, true, false, true⟩ }
    (fun t => t.pc == 0x2001#16 && t.flags == ⟨true, true, true, false, false⟩) = true := by decide

theorem test_V81_stc : goes { start 0x2000#16 [0x37#8] [] with flags := ⟨true, false, true, true, false⟩ }
    (fun t => t.pc == 0x2001#16 && t.flags == ⟨true, false, true, true, true⟩) = true := by decide

theorem test_V83_rlc : goes { start 0x2000#16 [0x07#8] [] with a := 0x85#8, flags := ⟨true, false, true, false, false⟩ }
    (fun t => t.a == 0x0B#8 && t.pc == 0x2001#16 && t.flags == ⟨true, false, true, false, true⟩) = true := by decide

theorem test_V86_ral : goes { start 0x2000#16 [0x17#8] [] with a := 0x40#8, flags := ⟨true, false, true, false, true⟩ }
    (fun t => t.a == 0x81#8 && t.pc == 0x2001#16 && t.flags == ⟨true, false, true, false, false⟩) = true := by decide

theorem test_V87_rrc : goes { start 0x2000#16 [0x0F#8] [] with a := 0x85#8, flags := ⟨true, false, true, false, false⟩ }
    (fun t => t.a == 0xC2#8 && t.pc == 0x2001#16 && t.flags == ⟨true, false, true, false, true⟩) = true := by decide

theorem test_V90_rar : goes { start 0x2000#16 [0x1F#8] [] with a := 0x00#8, flags := ⟨true, false, true, false, true⟩ }
    (fun t => t.a == 0x80#8 && t.pc == 0x2001#16 && t.flags == ⟨true, false, true, false, false⟩) = true := by decide

theorem test_V100_jmp : goes { start 0x2000#16 [0xC3#8, 0x34#8, 0x12#8] [] with flags := ⟨true, false, true, false, true⟩ }
    (fun t => t.pc == 0x1234#16 && t.flags == ⟨true, false, true, false, true⟩) = true := by decide

theorem test_V102_pchl : goes { start 0x2000#16 [0xE9#8] [] with h := 0x40#8, l := 0x50#8, flags := ⟨true, false, true, false, true⟩ }
    (fun t => t.pc == 0x4050#16 && t.hl == 0x4050#16 && t.flags == ⟨true, false, true, false, true⟩) = true := by decide

theorem test_V103_call : goes { start 0x2040#16 [0xCD#8, 0x00#8, 0x30#8] [] with sp := 0x2400#16, flags := ⟨true, false, true, false, true⟩ }
    (fun t => cell t 0x23FF#16 == some 0x20#8 && cell t 0x23FE#16 == some 0x43#8 && t.sp == 0x23FE#16 && t.pc == 0x3000#16 && t.flags == ⟨true, false, true, false, true⟩) = true := by decide

theorem test_V104_call : goes { start 0x2040#16 [0xCD#8, 0x00#8, 0x30#8] [] with sp := 0x0001#16, flags := ⟨true, false, true, false, true⟩ }
    (fun t => cell t 0x0000#16 == some 0x20#8 && cell t 0xFFFF#16 == some 0x43#8 && t.sp == 0xFFFF#16 && t.pc == 0x3000#16 && t.flags == ⟨true, false, true, false, true⟩) = true := by decide

theorem test_V105_ret : goes { start 0x2000#16 [0xC9#8] [(0x23FE#16, 0x43#8), (0x23FF#16, 0x20#8)] with sp := 0x23FE#16, flags := ⟨true, false, true, false, true⟩ }
    (fun t => t.pc == 0x2043#16 && t.sp == 0x2400#16 && cell t 0x23FE#16 == some 0x43#8 && cell t 0x23FF#16 == some 0x20#8 && t.flags == ⟨true, false, true, false, true⟩) = true := by decide

theorem test_V107_xthl : goes { start 0x2000#16 [0xE3#8] [(0x23FE#16, 0x38#8), (0x23FF#16, 0x67#8)] with sp := 0x23FE#16, h := 0xA2#8, l := 0x57#8, flags := ⟨true, false, true, false, true⟩ }
    (fun t => t.hl == 0x6738#16 && cell t 0x23FE#16 == some 0x57#8 && cell t 0x23FF#16 == some 0xA2#8 && t.sp == 0x23FE#16 && t.pc == 0x2001#16 && t.flags == ⟨true, false, true, false, true⟩) = true := by decide

theorem test_V120_jnz : goes { start 0x2000#16 [0xC2#8, 0x00#8, 0x21#8] [] with flags := ⟨true, false, true, false, true⟩ }
    (fun t => t.pc == 0x2100#16 && t.flags == ⟨true, false, true, false, true⟩) = true := by decide

theorem test_V121_jnz : goes { start 0x2000#16 [0xC2#8, 0x00#8, 0x21#8] [] with flags := ⟨true, true, true, false, true⟩ }
    (fun t => t.pc == 0x2003#16 && t.flags == ⟨true, true, true, false, true⟩) = true := by decide

theorem test_V122_jz : goes { start 0x2000#16 [0xCA#8, 0x00#8, 0x21#8] [] with flags := ⟨true, true, true, false, true⟩ }
    (fun t => t.pc == 0x2100#16 && t.flags == ⟨true, true, true, false, true⟩) = true := by decide

theorem test_V124_jnc : goes { start 0x2000#16 [0xD2#8, 0x00#8, 0x21#8] [] with flags := ⟨true, false, true, false, false⟩ }
    (fun t => t.pc == 0x2100#16 && t.flags == ⟨true, false, true, false, false⟩) = true := by decide

theorem test_V126_jc : goes { start 0x2000#16 [0xDA#8, 0x00#8, 0x21#8] [] with flags := ⟨true, false, true, false, true⟩ }
    (fun t => t.pc == 0x2100#16 && t.flags == ⟨true, false, true, false, true⟩) = true := by decide

theorem test_V128_jpo : goes { start 0x2000#16 [0xE2#8, 0x00#8, 0x21#8] [] with flags := ⟨true, false, true, false, true⟩ }
    (fun t => t.pc == 0x2100#16 && t.flags == ⟨true, false, true, false, true⟩) = true := by decide

theorem test_V130_jpe : goes { start 0x2000#16 [0xEA#8, 0x00#8, 0x21#8] [] with flags := ⟨true, false, true, true, true⟩ }
    (fun t => t.pc == 0x2100#16 && t.flags == ⟨true, false, true, true, true⟩) = true := by decide

theorem test_V132_jp : goes { start 0x2000#16 [0xF2#8, 0x00#8, 0x21#8] [] with flags := ⟨false, false, true, false, true⟩ }
    (fun t => t.pc == 0x2100#16 && t.flags == ⟨false, false, true, false, true⟩) = true := by decide

theorem test_V134_jm : goes { start 0x2000#16 [0xFA#8, 0x00#8, 0x21#8] [] with flags := ⟨true, false, true, false, true⟩ }
    (fun t => t.pc == 0x2100#16 && t.flags == ⟨true, false, true, false, true⟩) = true := by decide

theorem test_V136_cnz : goes { start 0x2040#16 [0xC4#8, 0x00#8, 0x30#8] [] with sp := 0x2400#16, flags := ⟨true, false, true, false, true⟩ }
    (fun t => cell t 0x23FF#16 == some 0x20#8 && cell t 0x23FE#16 == some 0x43#8 && t.sp == 0x23FE#16 && t.pc == 0x3000#16 && t.flags == ⟨true, false, true, false, true⟩) = true := by decide

theorem test_V137_cnz : goes { start 0x2040#16 [0xC4#8, 0x00#8, 0x30#8] [] with sp := 0x2400#16, flags := ⟨true, true, true, false, true⟩ }
    (fun t => t.sp == 0x2400#16 && t.pc == 0x2043#16 && t.flags == ⟨true, true, true, false, true⟩) = true := by decide

theorem test_V138_cz : goes { start 0x2040#16 [0xCC#8, 0x00#8, 0x30#8] [] with sp := 0x2400#16, flags := ⟨true, true, true, false, true⟩ }
    (fun t => cell t 0x23FF#16 == some 0x20#8 && cell t 0x23FE#16 == some 0x43#8 && t.sp == 0x23FE#16 && t.pc == 0x3000#16 && t.flags == ⟨true, true, true, false, true⟩) = true := by decide

theorem test_V140_cnc : goes { start 0x2040#16 [0xD4#8, 0x00#8, 0x30#8] [] with sp := 0x2400#16, flags := ⟨true, false, true, false, false⟩ }
    (fun t => cell t 0x23FF#16 == some 0x20#8 && cell t 0x23FE#16 == some 0x43#8 && t.sp == 0x23FE#16 && t.pc == 0x3000#16 && t.flags == ⟨true, false, true, false, false⟩) = true := by decide

theorem test_V142_cc : goes { start 0x2040#16 [0xDC#8, 0x00#8, 0x30#8] [] with sp := 0x2400#16, flags := ⟨true, false, true, false, true⟩ }
    (fun t => cell t 0x23FF#16 == some 0x20#8 && cell t 0x23FE#16 == some 0x43#8 && t.sp == 0x23FE#16 && t.pc == 0x3000#16 && t.flags == ⟨true, false, true, false, true⟩) = true := by decide

theorem test_V144_cpo : goes { start 0x2040#16 [0xE4#8, 0x00#8, 0x30#8] [] with sp := 0x2400#16, flags := ⟨true, false, true, false, true⟩ }
    (fun t => cell t 0x23FF#16 == some 0x20#8 && cell t 0x23FE#16 == some 0x43#8 && t.sp == 0x23FE#16 && t.pc == 0x3000#16 && t.flags == ⟨true, false, true, false, true⟩) = true := by decide

theorem test_V146_cpe : goes { start 0x2040#16 [0xEC#8, 0x00#8, 0x30#8] [] with sp := 0x2400#16, flags := ⟨true, false, true, true, true⟩ }
    (fun t => cell t 0x23FF#16 == some 0x20#8 && cell t 0x23FE#16 == some 0x43#8 && t.sp == 0x23FE#16 && t.pc == 0x3000#16 && t.flags == ⟨true, false, true, true, true⟩) = true := by decide

theorem test_V148_cp : goes { start 0x2040#16 [0xF4#8, 0x00#8, 0x30#8] [] with sp := 0x2400#16, flags := ⟨false, false, true, false, true⟩ }
    (fun t => cell t 0x23FF#16 == some 0x20#8 && cell t 0x23FE#16 == some 0x43#8 && t.sp == 0x23FE#16 && t.pc == 0x3000#16 && t.flags == ⟨false, false, true, false, true⟩) = true := by decide

theorem test_V150_cm : goes { start 0x2040#16 [0xFC#8, 0x00#8, 0x30#8] [] with sp := 0x2400#16, flags := ⟨true, false, true, false, true⟩ }
    (fun t => cell t 0x23FF#16 == some 0x20#8 && cell t 0x23FE#16 == some 0x43#8 && t.sp == 0x23FE#16 && t.pc == 0x3000#16 && t.flags == ⟨true, false, true, false, true⟩) = true := by decide

theorem test_V152_rnz : goes { start 0x3005#16 [0xC0#8] [(0x23FE#16, 0x43#8), (0x23FF#16, 0x20#8)] with sp := 0x23FE#16, flags := ⟨true, false, true, false, true⟩ }
    (fun t => t.pc == 0x2043#16 && t.sp == 0x2400#16 && t.flags == ⟨true, false, true, false, true⟩) = true := by decide

theorem test_V153_rnz : goes { start 0x3005#16 [0xC0#8] [(0x23FE#16, 0x43#8), (0x23FF#16, 0x20#8)] with sp := 0x23FE#16, flags := ⟨true, true, true, false, true⟩ }
    (fun t => t.pc == 0x3006#16 && t.sp == 0x23FE#16 && t.flags == ⟨true, true, true, false, true⟩) = true := by decide

theorem test_V154_rz : goes { start 0x3005#16 [0xC8#8] [(0x23FE#16, 0x43#8), (0x23FF#16, 0x20#8)] with sp := 0x23FE#16, flags := ⟨true, true, true, false, true⟩ }
    (fun t => t.pc == 0x2043#16 && t.sp == 0x2400#16 && t.flags == ⟨true, true, true, false, true⟩) = true := by decide

theorem test_V156_rnc : goes { start 0x3005#16 [0xD0#8] [(0x23FE#16, 0x43#8), (0x23FF#16, 0x20#8)] with sp := 0x23FE#16, flags := ⟨true, false, true, false, false⟩ }
    (fun t => t.pc == 0x2043#16 && t.sp == 0x2400#16 && t.flags == ⟨true, false, true, false, false⟩) = true := by decide

theorem test_V158_rc : goes { start 0x3005#16 [0xD8#8] [(0x23FE#16, 0x43#8), (0x23FF#16, 0x20#8)] with sp := 0x23FE#16, flags := ⟨true, false, true, false, true⟩ }
    (fun t => t.pc == 0x2043#16 && t.sp == 0x2400#16 && t.flags == ⟨true, false, true, false, true⟩) = true := by decide

theorem test_V160_rpo : goes { start 0x3005#16 [0xE0#8] [(0x23FE#16, 0x43#8), (0x23FF#16, 0x20#8)] with sp := 0x23FE#16, flags := ⟨true, false, true, false, true⟩ }
    (fun t => t.pc == 0x2043#16 && t.sp == 0x2400#16 && t.flags == ⟨true, false, true, false, true⟩) = true := by decide

theorem test_V162_rpe : goes { start 0x3005#16 [0xE8#8] [(0x23FE#16, 0x43#8), (0x23FF#16, 0x20#8)] with sp := 0x23FE#16, flags := ⟨true, false, true, true, true⟩ }
    (fun t => t.pc == 0x2043#16 && t.sp == 0x2400#16 && t.flags == ⟨true, false, true, true, true⟩) = true := by decide

theorem test_V164_rp : goes { start 0x3005#16 [0xF0#8] [(0x23FE#16, 0x43#8), (0x23FF#16, 0x20#8)] with sp := 0x23FE#16, flags := ⟨false, false, true, false, true⟩ }
    (fun t => t.pc == 0x2043#16 && t.sp == 0x2400#16 && t.flags == ⟨false, false, true, false, true⟩) = true := by decide

theorem test_V166_rm : goes { start 0x3005#16 [0xF8#8] [(0x23FE#16, 0x43#8), (0x23FF#16, 0x20#8)] with sp := 0x23FE#16, flags := ⟨true, false, true, false, true⟩ }
    (fun t => t.pc == 0x2043#16 && t.sp == 0x2400#16 && t.flags == ⟨true, false, true, false, true⟩) = true := by decide

theorem test_V180_nop : goes { start 0x2000#16 [0x00#8] [] with flags := ⟨true, false, true, false, true⟩ }
    (fun t => t.pc == 0x2001#16 && t.flags == ⟨true, false, true, false, true⟩) = true := by decide

theorem test_V181_hlt : goes { start 0x2010#16 [0x76#8] [] with flags := ⟨true, false, true, false, true⟩ }
    (fun t => t.pc == 0x2010#16 && t.halted && t.flags == ⟨true, false, true, false, true⟩) = true := by decide

theorem test_V183_push : goes { start 0x2000#16 [0xE5#8] [] with h := 0xBE#8, l := 0xEF#8, sp := 0x0000#16, flags := ⟨true, false, true, false, true⟩ }
    (fun t => cell t 0xFFFF#16 == some 0xBE#8 && cell t 0xFFFE#16 == some 0xEF#8 && t.sp == 0xFFFE#16 && t.pc == 0x2001#16 && t.flags == ⟨true, false, true, false, true⟩) = true := by decide

theorem test_V184_push : goes { start 0x2000#16 [0xF5#8] [] with a := 0x9A#8, sp := 0x2400#16, flags := ⟨true, false, true, true, false⟩ }
    (fun t => t.sp == 0x23FE#16 && t.pc == 0x2001#16 && t.flags == ⟨true, false, true, true, false⟩) = true := by decide

theorem test_V187_pop : goes { start 0x2000#16 [0xF1#8] [(0x23FE#16, 0x2A#8), (0x23FF#16, 0x11#8)] with sp := 0x23FE#16, flags := ⟨true, true, true, true, true⟩ }
    (fun t => t.a == 0x11#8 && t.sp == 0x2400#16 && t.pc == 0x2001#16 && t.flags == ⟨false, false, false, false, false⟩) = true := by decide

theorem test_V190_pop : goes { start 0x2000#16 [0xD1#8] [(0xFFFF#16, 0x01#8), (0x0000#16, 0x02#8)] with sp := 0xFFFF#16, flags := ⟨true, false, true, false, true⟩ }
    (fun t => t.de == 0x0201#16 && t.sp == 0x0001#16 && t.pc == 0x2001#16 && t.flags == ⟨true, false, true, false, true⟩) = true := by decide

theorem test_V192_rst : goes { start 0x2050#16 [0xEF#8] [] with sp := 0x2400#16, flags := ⟨true, false, true, false, true⟩ }
    (fun t => cell t 0x23FF#16 == some 0x20#8 && cell t 0x23FE#16 == some 0x51#8 && t.sp == 0x23FE#16 && t.pc == 0x0028#16 && t.flags == ⟨true, false, true, false, true⟩) = true := by decide

theorem test_V193_rst : goes { start 0xFFFF#16 [0xFF#8] [] with sp := 0x2400#16, flags := ⟨true, false, true, false, true⟩ }
    (fun t => cell t 0x23FF#16 == some 0x00#8 && cell t 0x23FE#16 == some 0x00#8 && t.sp == 0x23FE#16 && t.pc == 0x0038#16 && t.flags == ⟨true, false, true, false, true⟩) = true := by decide

theorem test_V194_sphl : goes { start 0x2000#16 [0xF9#8] [] with h := 0x24#8, l := 0x00#8, flags := ⟨true, false, true, false, true⟩ }
    (fun t => t.sp == 0x2400#16 && t.hl == 0x2400#16 && t.pc == 0x2001#16 && t.flags == ⟨true, false, true, false, true⟩) = true := by decide

theorem test_V195_inp : goes { start 0x2000#16 [0xDB#8, 0x10#8] [] with a := 0x00#8, answers := [0x5A#8], flags := ⟨true, false, true, false, true⟩ }
    (fun t => t.a == 0x5A#8 && t.pc == 0x2002#16 && t.flags == ⟨true, false, true, false, true⟩) = true := by decide

theorem test_V196_out : goes { start 0x2000#16 [0xD3#8, 0x01#8] [] with a := 0x17#8, flags := ⟨true, false, true, false, true⟩ }
    (fun t => t.a == 0x17#8 && t.pc == 0x2002#16 && t.flags == ⟨true, false, true, false, true⟩ && t.log == [.ioWrite 0x01#8 0x17#8]) = true := by decide

theorem test_V197_ei : goes { start 0x2000#16 [0xFB#8] [] with ie := false, flags := ⟨true, false, true, false, true⟩ }
    (fun t => t.ie && t.m75 && t.m65 && t.m55 && !t.r75 && !t.sod && t.pc == 0x2001#16 && t.flags == ⟨true, false, true, false, true⟩) = true := by decide

theorem test_V198_di : goes { start 0x2000#16 [0xF3#8] [] with ie := true, flags := ⟨true, false, true, false, true⟩ }
    (fun t => !t.ie && t.m75 && t.m65 && t.m55 && !t.r75 && !t.sod && t.pc == 0x2001#16 && t.flags == ⟨true, false, true, false, true⟩) = true := by decide

theorem test_V200_rim : goes { start 0x2000#16 [0x20#8] [] with ie := true, m75 := false, m65 := false, m55 := false, r75 := false, env := [{ sid := some true }], flags := ⟨true, false, true, false, true⟩ }
    (fun t => t.a == 0x88#8 && t.pc == 0x2001#16 && t.flags == ⟨true, false, true, false, true⟩) = true := by decide

theorem test_V201_rim : goes { start 0x2000#16 [0x20#8] [] with ie := false, m75 := true, m65 := false, m55 := true, r75 := true, env := [{ sid := some false }], flags := ⟨true, false, true, false, true⟩ }
    (fun t => t.a == 0x45#8 && t.pc == 0x2001#16 && t.flags == ⟨true, false, true, false, true⟩) = true := by decide

theorem test_V202_sim : goes { start 0x2000#16 [0x30#8] [] with a := 0x0D#8, flags := ⟨true, false, true, false, true⟩ }
    (fun t => !t.ie && t.m75 && !t.m65 && t.m55 && !t.r75 && !t.sod && t.a == 0x0D#8 && t.pc == 0x2001#16 && t.flags == ⟨true, false, true, false, true⟩) = true := by decide

theorem test_V206_sim : goes { start 0x2000#16 [0x30#8] [] with a := 0x40#8, sod := true, flags := ⟨true, false, true, false, true⟩ }
    (fun t => !t.ie && t.m75 && t.m65 && t.m55 && !t.r75 && !t.sod && t.pc == 0x2001#16 && t.flags == ⟨true, false, true, false, true⟩) = true := by decide


/-! ### Interrupts and reset (I1 to I15 of `95_test_vectors.md`) -/

theorem test_I1_trap : goes { start 0x2000#16 [] [] with env := [{ trap := true }] }
    (fun t => cell t 0x23FF#16 == some 0x20#8 && cell t 0x23FE#16 == some 0x00#8 && t.sp == 0x23FE#16 && t.pc == 0x0024#16 &&
      !t.ie && t.m75 && t.m65 && t.m55) = true := by decide

theorem test_I2_edge_latched_while_masked : goes { start 0x2000#16 [0x00#8] [] with ie := true, env := [{ edge75 := true }] }
    (fun t => t.r75 && t.ie && t.pc == 0x2001#16 && t.sp == 0x2400#16) = true := by decide

theorem test_I3_rst75 : goes { start 0x2000#16 [] [] with ie := true, m75 := false, env := [{ edge75 := true }] }
    (fun t => !t.r75 && !t.ie && t.pc == 0x003C#16 && cell t 0x23FF#16 == some 0x20#8) = true := by decide

theorem test_I4_rst65_first : goes { start 0x2000#16 [] [] with
    ie := true, m65 := false, m55 := false, env := [{ l65 := true, l55 := true }] }
    (fun t => !t.ie && t.pc == 0x0034#16 && t.sp == 0x23FE#16) = true := by decide

theorem test_I5_rst55_over_intr : goes { start 0x2000#16 [] [] with ie := true, m55 := false, env := [{ l55 := true, intr := true }] }
    (fun t => !t.ie && t.pc == 0x002C#16 && t.sp == 0x23FE#16) = true := by decide

theorem test_I6_disabled : goes { start 0x2000#16 [0x00#8] [] with m65 := false, env := [{ l65 := true, intr := true }] }
    (fun t => t.pc == 0x2001#16 && t.sp == 0x2400#16) = true := by decide

theorem test_I7_masked : goes { start 0x2000#16 [0x00#8] [] with ie := true, env := [{ l65 := true }] }
    (fun t => t.pc == 0x2001#16 && t.ie) = true := by decide

theorem test_I8_intr_rst7 : goes { start 0x2000#16 [] [] with
    ie := true, env := [{ intr := true, inta := .bytes 0xFF#8 0x00#8 0x00#8 }] }
    (fun t => !t.ie && t.pc == 0x0038#16 && cell t 0x23FF#16 == some 0x20#8 && cell t 0x23FE#16 == some 0x00#8) = true := by decide

theorem test_I9_intr_call : goes { start 0x2000#16 [] [] with
    ie := true, env := [{ intr := true, inta := .bytes 0xCD#8 0x00#8 0x30#8 }] }
    (fun t => !t.ie && t.pc == 0x3000#16 && cell t 0x23FF#16 == some 0x20#8 && cell t 0x23FE#16 == some 0x00#8) = true := by decide

theorem test_I10_intr_other_refused : step { start 0x2000#16 [] [] with
    ie := true, env := [{ intr := true, inta := .bytes 0x00#8 0x00#8 0x00#8 }] } = .refused (.intaOpcode 0x00#8) := rfl

theorem test_I11_halt_idles : goes { start 0x2010#16 [] [] with halted := true, env := [{ intr := true, l65 := true }] }
    (fun t => t.halted && t.pc == 0x2010#16) = true := by decide

theorem test_I12_trap_ends_halt : goes { start 0x2010#16 [] [] with halted := true, env := [{ trap := true }] }
    (fun t => !t.halted && t.pc == 0x0024#16 && cell t 0x23FE#16 == some 0x10#8) = true := by decide

theorem test_I13_trap_over_rst75 : goes { start 0x2000#16 [] [] with ie := true, m75 := false, r75 := true, env := [{ trap := true }] }
    (fun t => t.r75 && !t.ie && t.pc == 0x0024#16) = true := by decide

theorem test_I14_reset : goes { start 0x2000#16 [] [(0x2050#16, 0x77#8)] with
    ie := true, m75 := false, r75 := true, sod := true, halted := true, env := [{ reset := true }] }
    (fun t => t.pc == 0x0000#16 && !t.ie && t.m75 && t.m65 && t.m55 && !t.r75 && !t.sod && !t.halted &&
      cell t 0x2050#16 == some 0x77#8) = true := by decide

/-- I15, second boundary, `EI_DELAY = none`: INTR is accepted right after EI. -/
theorem test_I15_no_delay : goes { start 0x2001#16 [0x00#8] [] with
    ie := true, env := [{ intr := true, inta := .bytes 0xCF#8 0x00#8 0x00#8 }] }
    (fun t => t.pc == 0x0008#16 && !t.ie && cell t 0x23FE#16 == some 0x01#8) = true := by decide

/-- I15, second boundary, `EI_DELAY = one_instruction`: the NOP runs first. -/
theorem test_I15_delay : goes { start 0x2001#16 [0x00#8] [] with
    ie := true, eiShadow := true, params := { eiDelay := .oneInstruction }
    env := [{ intr := true, inta := .bytes 0xCF#8 0x00#8 0x00#8 }] }
    (fun t => t.pc == 0x2002#16 && t.ie && !t.eiShadow) = true := by decide

/-- The note under V181: `HLT_PC = advance`. -/
theorem test_V181_hlt_advance : goes { start 0x2010#16 [0x76#8] [] with params := { hltPc := .advance } }
    (fun t => t.pc == 0x2011#16 && t.halted) = true := by decide

/-! ### The hypotheses of the obligations, met -/

/-- `ram` below 0x8000, then `rom`, `absent` and, from 0xF000 up, `device`. -/
def mapped : State := { start 0x2000#16 [0x00#8] [(0x8000#16, 0x11#8), (0x2050#16, 0x22#8)] with
  params := { memMap := [{ first := 0x8000#16, last := 0x8FFF#16, kind := .rom }, { first := 0x9000#16, last := 0xEFFF#16, kind := .absent },
    { first := 0xF000#16, last := 0xFFFF#16, kind := .device }] } }

theorem witness_DecodeOfEncodeGivesBackInstruction :
    Instr.wf (.mov (.reg .b) .m) = true ∧ Instr.wf (.lxi .sp 0xFFFF#16) = true := by decide

theorem witness_EncodeOfDecodeGivesBackBytes : decode [0x31#8, 0xFF#8, 0xFF#8, 0x00#8] = .ok (.lxi .sp 0xFFFF#16, [0x00#8]) := by decide

theorem witness_TenOpcodesAreUndefinedAndRefused :
    (start 0x2000#16 [0xFD#8] []).Executes ∧ (start 0x2000#16 [0xFD#8] []).sample.fetch.1.1 ∈ undefinedOpcodes :=
  ⟨⟨rfl, rfl, rfl⟩, by decide⟩

theorem witness_FirstByteAloneFixesLength : decodeBytes 0x3A#8 0x50#8 0x20#8 = some (.lda 0x2050#16) := by decide

theorem witness_StepRunsTheFetchedInstruction :
    (start 0x2000#16 [0x3E#8, 0x42#8] []).Executes ∧
    decodeBytes (start 0x2000#16 [0x3E#8, 0x42#8] []).sample.fetch.1.1 (start 0x2000#16 [0x3E#8, 0x42#8] []).sample.fetch.1.2.1
      (start 0x2000#16 [0x3E#8, 0x42#8] []).sample.fetch.1.2.2 = some (.mvi (.reg .a) 0x42#8) :=
  ⟨⟨rfl, rfl, rfl⟩, by decide⟩

/-- The three bytes wrap at the top of the address space. -/
theorem witness_InstructionHeldInMemoryRuns :
    (start 0xFFFF#16 [0xC3#8, 0x34#8, 0x12#8] []).Executes ∧ Instr.wf (.jmp 0x1234#16) = true ∧
    (start 0xFFFF#16 [0xC3#8, 0x34#8, 0x12#8] []).HoldsBytes 0xFFFF#16 (encode (.jmp 0x1234#16)) :=
  ⟨⟨rfl, rfl, rfl⟩, rfl, ⟨.inl rfl, rfl⟩, ⟨.inl rfl, rfl⟩, ⟨.inl rfl, rfl⟩, trivial⟩

theorem witness_StepAcceptsIdlesOrResets_given : ({ State.reset with env := [{ l65 := true }] } : State).env = [{ l65 := true }] ∧
    State.reset.env = [] := by decide

theorem witness_StepAcceptsIdlesOrResets_reset :
    ({ State.reset with env := [{ reset := true, trap := true }] } : State).sample.now.reset = true := by decide

theorem witness_StepAcceptsIdlesOrResets_accept :
    ({ State.reset with env := [{ trap := true }] } : State).sample.now.reset = false ∧
    ({ State.reset with env := [{ trap := true }] } : State).sample.acceptable = some .trap := by decide

theorem witness_StepAcceptsIdlesOrResets_idle :
    ({ State.reset with halted := true } : State).sample.now.reset = false ∧
    ({ State.reset with halted := true } : State).sample.acceptable = none ∧ ({ State.reset with halted := true } : State).halted = true := by
  decide

theorem witness_AcceptedSourceIsEnabledAndFirst :
    ({ State.reset with ie := true, r75 := true, m75 := false, now := { l65 := true } } : State).acceptable = some .rst75 ∧
    ({ State.reset with ie := true, m65 := false, now := { l65 := true, l55 := true } } : State).acceptable = some .rst65 ∧
    ({ State.reset with ie := true, m55 := false, now := { l55 := true, intr := true } } : State).acceptable = some .rst55 ∧
    ({ State.reset with ie := true, now := { intr := true } } : State).acceptable = some .intr ∧
    State.reset.acceptable = none := by decide

theorem witness_VectoredInterruptEntry : Source.rst75.entry = some 0x003C#16 ∧ Source.trap.entry = some 0x0024#16 := by decide

theorem witness_IntrExecutesSuppliedRestartOrCall_restart :
    ({ State.reset with now := { inta := .bytes 0xC7#8 0x00#8 0x00#8 } } : State).now.inta = .bytes (0b11#2 ++ 0b000#3 ++ 0b111#3) 0x00#8 0x00#8 := by
  decide

theorem witness_IntrExecutesSuppliedRestartOrCall_call :
    ({ State.reset with now := { inta := .bytes 0xCD#8 0x00#8 0x30#8 } } : State).now.inta = .bytes 0xCD#8 0x00#8 0x30#8 := by decide

theorem witness_IntrExecutesSuppliedRestartOrCall_other :
    ({ State.reset with now := { inta := .bytes 0xC9#8 0x00#8 0x00#8 } } : State).now.inta = .bytes 0xC9#8 0x00#8 0x00#8 ∧
    0xC9#8 ≠ 0xCD#8 ∧ ∀ n : BitVec 3, 0xC9#8 ≠ 0b11#2 ++ n ++ 0b111#3 := by decide

theorem witness_IntrExecutesSuppliedRestartOrCall_open : State.reset.now.inta = .anyRestart := by decide

theorem witness_TrapIsTakenWhateverIsMasked :
    ({ State.reset with halted := true, env := [{ trap := true }] } : State).sample.now.reset = false ∧
    ({ State.reset with halted := true, env := [{ trap := true }] } : State).sample.now.trap = true := by decide

/-- SP = 0, so that the two cells wrap. -/
theorem witness_ReturnEndsInterruptRoutine_vectored : Source.rst55 ≠ Source.intr ∧
    regionOf State.reset.params (State.reset.sp - 1#16) = .ram ∧ regionOf State.reset.params (State.reset.sp - 2#16) = .ram := by decide

theorem witness_ReturnEndsInterruptRoutine_open : State.reset.now.inta = .anyRestart ∧
    regionOf State.reset.params (State.reset.sp - 1#16) = .ram ∧ regionOf State.reset.params (State.reset.sp - 2#16) = .ram := by decide

theorem witness_ReturnEndsInterruptRoutine_restart :
    ({ State.reset with now := { inta := .bytes 0xFF#8 0x00#8 0x00#8 }, sp := 0x0001#16 } : State).now.inta =
      .bytes (0b11#2 ++ 0b111#3 ++ 0b111#3) 0x00#8 0x00#8 ∧
    regionOf State.reset.params (0x0001#16 - 1#16) = .ram ∧ regionOf State.reset.params (0x0001#16 - 2#16) = .ram := by decide

theorem witness_ReturnEndsInterruptRoutine_call :
    ({ State.reset with now := { inta := .bytes 0xCD#8 0x34#8 0x12#8 } } : State).now.inta = .bytes 0xCD#8 0x34#8 0x12#8 ∧
    regionOf State.reset.params (State.reset.sp - 1#16) = .ram ∧ regionOf State.reset.params (State.reset.sp - 2#16) = .ram := by decide

theorem witness_Rst75RequestStaysUntilCleared_reset :
    goes { State.reset with r75 := true, env := [{ reset := true }] } (fun t => !t.r75) = true := by decide

theorem witness_Rst75RequestStaysUntilCleared_accepted :
    goes { State.reset with ie := true, m75 := false, env := [{ edge75 := true }] } (fun t => !t.r75) = true := by decide

theorem witness_Rst75RequestStaysUntilCleared_sim :
    goes { start 0x2000#16 [0x30#8] [] with a := 0x10#8, r75 := true } (fun t => !t.r75) = true := by decide

theorem witness_SystemResetAtABoundary : ({ State.reset with env := [{ reset := true }] } : State).sample.now.reset = true := by decide

theorem witness_EveryStepKeepsTheInvariant : (start 0x2000#16 [0x00#8] []).Inv ∧
    step (start 0x2000#16 [0x00#8] []) = .next { start 0x2000#16 [0x00#8] [] with pc := 0x2001#16 } := by
  refine ⟨⟨?_, fun h => ?_⟩, ?_⟩
  · decide
  · exact absurd h (by decide)
  · rfl

theorem witness_StepRefusesOnlyWhatTheSpecRefuses_undefined :
    step (start 0x2000#16 [0x08#8] []) = .refused (.undefinedOpcode 0x08#8) := rfl

theorem witness_StepRefusesOnlyWhatTheSpecRefuses_inta :
    step { State.reset with ie := true, env := [{ intr := true, inta := .bytes 0x76#8 0x00#8 0x00#8 }] } = .refused (.intaOpcode 0x76#8) := rfl

theorem witness_StepKeepsParametersAndRecord :
    step (start 0x2000#16 [0xD3#8, 0x01#8] []) =
      .next { start 0x2000#16 [0xD3#8, 0x01#8] [] with pc := 0x2002#16, log := [.ioWrite 0x01#8 0x00#8] } := rfl

theorem witness_ControlStateHasOnlyItsWriters_ie : exec .ei State.reset = .next { State.reset with ie := true, pc := 0x0001#16 } := rfl

theorem witness_ControlStateHasOnlyItsWriters_masks : exec .sim { State.reset with a := 0x0D#8 } =
    .next { State.reset with a := 0x0D#8, m65 := false, pc := 0x0001#16 } := rfl

theorem witness_ControlStateHasOnlyItsWriters_halted : exec .hlt State.reset = .next { State.reset with halted := true } := rfl

theorem witness_ControlStateHasOnlyItsWriters_sp : exec .sphl { State.reset with h := 0x24#8 } =
    .next { State.reset with h := 0x24#8, sp := 0x2400#16, pc := 0x0001#16 } := rfl

theorem witness_FlagsChangeOnlyAsListed : exec .cma State.reset = .next { State.reset with a := 0xFF#8, pc := 0x0001#16 } ∧
    keepsFlags .cma = true ∧ writesCarryOnly .stc = true := ⟨rfl, rfl, rfl⟩

theorem witness_MemoryChangesOnlyWhereStored : exec .stc State.reset =
    .next { State.reset with flags := ⟨false, false, false, false, true⟩, pc := 0x0001#16 } := rfl

theorem witness_RegistersAndPcChangeOnlyAsListed : exec .cma State.reset = .next { State.reset with a := 0xFF#8, pc := 0x0001#16 } ∧
    Reg.b ∉ writtenRegs .cma ∧ writesPc .cma = false := ⟨rfl, by decide, rfl⟩

/-- Both ends of every range. -/
theorem witness_MemoryAccessByRegion :
    regionOf mapped.params 0x7FFF#16 = .ram ∧ regionOf mapped.params 0x8000#16 = .rom ∧ regionOf mapped.params 0x8FFF#16 = .rom ∧
    regionOf mapped.params 0x9000#16 = .absent ∧ regionOf mapped.params 0xEFFF#16 = .absent ∧
    regionOf mapped.params 0xF000#16 = .device ∧ regionOf mapped.params 0xFFFF#16 = .device := by decide

theorem witness_MemoryAccessByRegion_cells : mapped.Holds 0x8000#16 0x11#8 ∧ mapped.Holds 0x2050#16 0x22#8 ∧
    cell mapped 0x7FFF#16 = none ∧ cell mapped 0x8FFF#16 = none :=
  ⟨⟨.inr (by decide), by decide⟩, ⟨.inl (by decide), by decide⟩, by decide, by decide⟩

theorem witness_MemoryAccessByRegion_answers : ({ mapped with answers := [0x5A#8] } : State).answers = 0x5A#8 :: [] := by decide

/-- SP = 0 and SP = 1 both wrap, SP = 0x2400 does not. -/
theorem witness_PushThenPopGivesBackTheWord : regionOf State.reset.params (0x0000#16 - 1#16) = .ram ∧
    regionOf State.reset.params (0x0000#16 - 2#16) = .ram ∧ regionOf State.reset.params (0x0001#16 - 2#16) = .ram ∧
    regionOf State.reset.params (0x2400#16 - 1#16) = .ram := by decide

theorem witness_MovAndMviCopy : Instr.wf (.mov .m (.reg .h)) = true ∧ Instr.wf (.mov (.reg .l) .m) = true := by decide

theorem witness_AccumulatorLoadsAndStores : regionOf State.reset.params 0xFFFF#16 = .ram := by decide

theorem witness_HlLoadsAndStoresDirect :
    regionOf State.reset.params 0xFFFF#16 = .ram ∧ regionOf State.reset.params (0xFFFF#16 + 1#16) = .ram := by decide

theorem witness_ComparisonsSetCarryAndZeroByOrder : (0x7F#8).toNat < (0x80#8).toNat ∧ (0x20#8 = 0x20#8) ∧ (0x00#8).toNat < (0xFF#8).toNat := by
  decide

theorem witness_CallThenReturnResumes :
    regionOf State.reset.params (State.reset.sp - 1#16) = .ram ∧ regionOf State.reset.params (State.reset.sp - 2#16) = .ram := by decide

theorem witness_XthlExchangesHlWithStackTop : regionOf (start 0x2000#16 [] []).params 0x2400#16 = .ram ∧
    regionOf (start 0x2000#16 [] []).params (0x2400#16 + 1#16) = .ram ∧
    cell (start 0x2000#16 [] [(0x2400#16, 0x38#8), (0x2401#16, 0x67#8)]) 0x2400#16 = some 0x38#8 ∧
    cell (start 0x2000#16 [] [(0x2400#16, 0x38#8), (0x2401#16, 0x67#8)]) (0x2400#16 + 1#16) = some 0x67#8 := by decide

theorem witness_PushAndPopMovePairs :
    (StackPair.de, State.reset.d, State.reset.e) ∈
      [(StackPair.bc, State.reset.b, State.reset.c), (StackPair.de, State.reset.d, State.reset.e), (StackPair.hl, State.reset.h, State.reset.l)] := by
  decide

theorem witness_PushPswThenPopPswRestores :
    regionOf State.reset.params (State.reset.sp - 1#16) = .ram ∧ regionOf State.reset.params (State.reset.sp - 2#16) = .ram := by decide

theorem witness_NopHltAndSphl : State.reset.params.hltPc = .stay ∧
    ({ State.reset with params := { hltPc := .advance } } : State).params.hltPc = .advance := by decide

theorem witness_PortReadTakesTheNextAnswer : ({ State.reset with answers := [0x5A#8] } : State).answers = 0x5A#8 :: [] ∧
    State.reset.answers = [] := by decide

theorem witness_EnableAndDisableInterrupts : State.reset.params.eiDelay = .none ∧
    ({ State.reset with params := { eiDelay := .oneInstruction } } : State).params.eiDelay = .oneInstruction := by decide

/-- TRAP is the one source the shadow lets through. -/
theorem witness_EiShadowLastsOneInstruction_trap :
    ({ State.reset with ie := true, eiShadow := true, params := { eiDelay := .oneInstruction }, env := [{ trap := true }] } : State).sample.acceptable
      = some .trap := by decide

theorem witness_EiShadowLastsOneInstruction_step :
    ({ start 0x2000#16 [0x00#8] [] with eiShadow := true, params := { eiDelay := .oneInstruction } } : State).Executes ∧
    decodeBytes 0x00#8 0x00#8 0x00#8 = some .nop ∧ Instr.nop ≠ .ei ∧
    goes { start 0x2000#16 [0x00#8] [] with eiShadow := true, params := { eiDelay := .oneInstruction } } (fun t => !t.eiShadow) = true :=
  ⟨⟨rfl, rfl, rfl⟩, by decide, by decide, by decide⟩

theorem witness_RimReadsInterruptStatus :
    ({ State.reset with now := { sid := some true } } : State).now.sid = some true ∧ State.reset.trapSinceRim = false := by decide

/-- The rows' variables have values, and an instruction that is not HLT exists. -/
theorem witness_MachineCyclesFitTheInstruction : Instr.sta 0xFFFF#16 ∈ [Instr.sta 0xFFFF#16] ∧ Instr.xthl ≠ .hlt := by decide

theorem witness_DelayLoopTStates : Instr.jnz 0x2005#16 ∈
    [Instr.jnz 0x2005#16, .jz 0x2005#16, .jnc 0x2005#16, .jc 0x2005#16, .jpo 0x2005#16, .jpe 0x2005#16, .jp 0x2005#16, .jm 0x2005#16] := by
  decide

end Sys2Proof.Tests
end

/-! SUPPORT. What no rule of the machine touches, once for each operation: the parameters of R5 and the inputs of the
environment stay, and the record of accesses only grows (`20_memory.md` R67). -/
section
namespace Sys2Proof.Machine

/-- From `s` to `t` the parameters and the environment's inputs, present and to come, stay, and the record of `t`
continues that of `s`. -/
def State.EnvKept (s t : State) : Prop :=
  t.params = s.params ∧ t.now = s.now ∧ t.env = s.env ∧ s.log <+: t.log

/-- Also the proof for any update of a state that leaves the four fields alone. -/
theorem State.EnvKept.refl (s : State) : s.EnvKept s := ⟨rfl, rfl, rfl, List.prefix_rfl⟩

theorem State.EnvKept.trans {s t u : State} (hst : s.EnvKept t) (htu : t.EnvKept u) : s.EnvKept u := by
  obtain ⟨hp, hn, he, hl⟩ := hst
  obtain ⟨hp', hn', he', hl'⟩ := htu
  exact ⟨hp'.trans hp, hn'.trans hn, he'.trans he, hl.trans hl'⟩

/-! ### The accesses -/

theorem State.record_envKept (ev : Event) (s : State) : s.EnvKept (s.record ev) :=
  ⟨rfl, rfl, rfl, List.prefix_append _ _⟩

theorem State.envAnswer_envKept (s : State) : s.EnvKept s.envAnswer.2 := by
  rcases s.envAnswer_cases with ⟨v, rest, -, e⟩ | ⟨-, e⟩ <;> rw [e] <;> exact .refl s

theorem State.memRead_envKept (addr : Word) (s : State) : s.EnvKept (s.memRead addr).2 := by
  rcases s.memRead_cases addr with ⟨v, -, e⟩ | e | e <;> rw [e]
  · exact .refl s
  · exact .refl s
  · exact s.envAnswer_envKept.trans (record_envKept _ _)

theorem State.memWrite_envKept (addr : Word) (v : Byte) (s : State) : s.EnvKept (s.memWrite addr v) := by
  rcases s.memWrite_cases addr v with ⟨-, e⟩ | ⟨-, e⟩ | ⟨-, e⟩ <;> rw [e]
  · exact .refl s
  · exact .refl s
  · exact s.record_envKept _

theorem State.ioRead_envKept (port : Byte) (s : State) : s.EnvKept (s.ioRead port).2 :=
  s.envAnswer_envKept.trans (record_envKept _ _)

/-! ### The stack -/

theorem State.push16_envKept (v : Word) (s : State) : s.EnvKept (s.push16 v) :=
  (s.memWrite_envKept (s.sp - 1#16) (hiByte v)).trans (memWrite_envKept (s.sp - 2#16) (loByte v) _)

theorem State.pop16_envKept (s : State) : s.EnvKept s.pop16.2 :=
  (s.memRead_envKept s.sp).trans (memRead_envKept (s.sp + 1#16) _)

theorem State.callTo_envKept (back target : Word) (s : State) : s.EnvKept (s.callTo back target) :=
  s.push16_envKept back

theorem State.returnFrom_envKept (s : State) : s.EnvKept s.returnFrom := s.pop16_envKept

/-! ### The operands -/

theorem State.rd8_envKept (o : Operand8) (s : State) : s.EnvKept (s.rd8 o).2 := by
  cases o with
  | reg r => exact .refl s
  | m => exact s.memRead_envKept s.hl

theorem State.wr8_envKept (o : Operand8) (v : Byte) (s : State) : s.EnvKept (s.wr8 o v) := by
  cases o with
  | reg r => cases r <;> exact .refl s
  | m => exact s.memWrite_envKept s.hl v

theorem State.setPair_envKept (rp : Pair) (v : Word) (s : State) : s.EnvKept (s.setPair rp v) := by
  cases rp <;> exact .refl s

theorem State.stackPairValue_envKept (rp : StackPair) (s : State) : s.EnvKept (s.stackPairValue rp).2 := by
  cases rp <;> exact .refl s

theorem State.setStackPair_envKept (rp : StackPair) (v : Word) (s : State) : s.EnvKept (s.setStackPair rp v) := by
  cases rp <;> exact .refl s

/-! ### The conditional transfers -/

theorem State.jumpIf_envKept (cond : Cond) (a16 : Word) (s : State) : s.EnvKept (s.jumpIf cond a16) := by
  rcases s.jumpIf_cases cond a16 with ⟨-, e⟩ | ⟨-, e⟩ <;> rw [e] <;> exact .refl s

theorem State.callIf_envKept (cond : Cond) (a16 : Word) (s : State) : s.EnvKept (s.callIf cond a16) := by
  rcases s.callIf_cases cond a16 with ⟨-, e⟩ | ⟨-, e⟩ <;> rw [e]
  · exact s.callTo_envKept _ _
  · exact .refl s

theorem State.returnIf_envKept (cond : Cond) (s : State) : s.EnvKept (s.returnIf cond) := by
  rcases s.returnIf_cases cond with ⟨-, e⟩ | ⟨-, e⟩ <;> rw [e]
  · exact s.returnFrom_envKept
  · exact .refl s

/-! ### The fetch and the bits RIM samples -/

theorem State.sampleSid_envKept (s : State) : s.EnvKept s.sampleSid.2 := by
  unfold State.sampleSid; split <;> exact .refl s

theorem State.sampleIe_envKept (s : State) : s.EnvKept s.sampleIe.2 := by
  unfold State.sampleIe; split <;> exact .refl s

theorem State.fetch_envKept (s : State) : s.EnvKept s.fetch.2 := by
  have hop := s.memRead_envKept s.pc
  have hb2 := hop.trans (memRead_envKept (s.pc + 1#16) _)
  simp only [State.fetch]
  split
  · exact hop
  · split
    · exact hb2
    · exact hb2.trans (memRead_envKept (s.pc + 2#16) _)

/-! ### The instructions and the step -/

/-- Every instruction has a meaning (`60_exceptions.md` R250), and none touches the parameters or the inputs. -/
theorem exec_envKept (i : Instr) (s : State) : ∃ t, exec i s = .next t ∧ s.EnvKept t := by
  cases i with
  | mov dst src => exact ⟨_, rfl, (s.rd8_envKept src).trans (State.wr8_envKept dst _ _)⟩
  | mvi dst d8 => exact ⟨_, rfl, s.wr8_envKept dst d8⟩
  | lxi rp | inx rp | dcx rp => exact ⟨_, rfl, s.setPair_envKept rp _⟩
  | lda a16 => exact ⟨_, rfl, s.memRead_envKept a16⟩
  | ldax rp => exact ⟨_, rfl, s.memRead_envKept (s.pointer rp)⟩
  | sta a16 => exact ⟨_, rfl, s.memWrite_envKept a16 s.a⟩
  | stax rp => exact ⟨_, rfl, s.memWrite_envKept (s.pointer rp) s.a⟩
  | lhld a16 => exact ⟨_, rfl, (s.memRead_envKept a16).trans (State.memRead_envKept (a16 + 1#16) _)⟩
  | shld a16 => exact ⟨_, rfl, (s.memWrite_envKept a16 s.l).trans (State.memWrite_envKept (a16 + 1#16) s.h _)⟩
  | xthl =>
    have hreads := (s.memRead_envKept s.sp).trans (State.memRead_envKept (s.sp + 1#16) _)
    have hwrite := hreads.trans (State.memWrite_envKept (s.sp + 1#16) s.h _)
    exact ⟨_, rfl, hwrite.trans (State.memWrite_envKept s.sp s.l _)⟩
  | add src | adc src | sub src | sbb src | ana src | ora src | xra src | cmp src =>
    exact ⟨_, rfl, s.rd8_envKept src⟩
  | inr dst | dcr dst => exact ⟨_, rfl, (s.rd8_envKept dst).trans (State.wr8_envKept dst _ _)⟩
  | jnz a16 | jz a16 | jnc a16 | jc a16 | jpo a16 | jpe a16 | jp a16 | jm a16 =>
    exact ⟨_, rfl, s.jumpIf_envKept _ a16⟩
  | cnz a16 | cz a16 | cnc a16 | cc a16 | cpo a16 | cpe a16 | cp a16 | cm a16 =>
    exact ⟨_, rfl, s.callIf_envKept _ a16⟩
  | rnz | rz | rnc | rc | rpo | rpe | rp | rm => exact ⟨_, rfl, s.returnIf_envKept _⟩
  | call a16 => exact ⟨_, rfl, s.callTo_envKept _ a16⟩
  | rst nnn => exact ⟨_, rfl, s.callTo_envKept _ _⟩
  | ret => exact ⟨_, rfl, s.returnFrom_envKept⟩
  | push rp => exact ⟨_, rfl, (s.stackPairValue_envKept rp).trans (State.push16_envKept _ _)⟩
  | pop rp => exact ⟨_, rfl, s.pop16_envKept.trans (State.setStackPair_envKept rp _ _)⟩
  | inp p8 => exact ⟨_, rfl, s.ioRead_envKept p8⟩
  | out p8 => exact ⟨_, rfl, s.record_envKept _⟩
  | rim => exact ⟨_, rfl, s.sampleSid_envKept.trans (State.sampleIe_envKept _)⟩
  | xchg | aci | adi | sbi | sui | daa | dad | ani | ori | xri | cma | cpi | cmc | stc | rlc | ral | rrc | rar
  | jmp | pchl | nop | hlt | sphl | ei | di | sim => exact ⟨_, rfl, .refl s⟩

theorem envKept_of_exec {i : Instr} {s t : State} (h : exec i s = .next t) : s.EnvKept t := by
  obtain ⟨u, hu, hk⟩ := exec_envKept i s
  exact Host.Outcome.next.inj (hu.symm.trans h) ▸ hk

theorem envKept_of_takeInterrupt {src : Source} {s t : State} (h : s.takeInterrupt src = .next t) : s.EnvKept t := by
  rcases s.takeInterrupt_cases src with ⟨k, target, e, -, -⟩ | ⟨-, op, e⟩
  · obtain rfl := Host.Outcome.next.inj (e.symm.trans h)
    exact State.callTo_envKept s.pc target { s.accepting src with draws := k }
  · cases e.symm.trans h

/-- After the boundary is sampled, a step takes no further input, whatever it does. -/
theorem sample_envKept_of_step {s t : State} (h : step s = .next t) : s.sample.EnvKept t := by
  rcases step_cases h with ⟨-, rfl⟩ | ⟨src, -, -, hi⟩ | ⟨-, -, -, rfl⟩ | ⟨i, -, -, hx⟩
  · exact .refl s.sample
  · exact envKept_of_takeInterrupt hi
  · exact .refl _
  · have hexec := envKept_of_exec hx
    exact s.sample.fetch_envKept.trans hexec

/-- Settles O20: sampling takes exactly one boundary, and nothing after it touches the parameters or the schedule. -/
theorem stepKeepsParametersAndRecord : Obligations.StepKeepsParametersAndRecord := by
  intro s t h
  obtain ⟨hparams, -, henv, hlog⟩ := sample_envKept_of_step h
  exact ⟨hparams, henv, hlog⟩

end Sys2Proof.Machine
end

/-! SUPPORT. The operands as places: what a read of a register or a pair gives after a write, and a joined word as a
number (`00_scope.md` R8, `10_state.md` R20, R22). -/
section
namespace Sys2Proof

theorem toNat_joinBytes (hi lo : Byte) : (joinBytes hi lo).toNat = 256 * hi.toNat + lo.toNat := by
  have happend : (joinBytes hi lo).toNat = hi.toNat <<< 8 ||| lo.toNat := BitVec.toNat_append hi lo
  rw [happend, ← Nat.shiftLeft_add_eq_or_of_lt lo.isLt, Nat.shiftLeft_eq]
  omega

end Sys2Proof

namespace Sys2Proof.Machine

@[simp] theorem State.getReg_setReg_same (r : Reg) (v : Byte) (s : State) : (s.setReg r v).getReg r = v := by
  cases r <;> rfl

theorem State.getReg_setReg_ne {r q : Reg} (h : q ≠ r) (v : Byte) (s : State) :
    (s.setReg r v).getReg q = s.getReg q := by
  cases r <;> cases q <;> trivial -- one register twice, against `h`, or two different fields

@[simp] theorem State.getPair_setPair_same (p : Pair) (w : Word) (s : State) : (s.setPair p w).getPair p = w := by
  cases p with
  | bc | de | hl => exact joinBytes_hiByte_loByte w
  | sp => rfl

theorem State.getPair_setPair_ne {p q : Pair} (h : q ≠ p) (w : Word) (s : State) :
    (s.setPair p w).getPair q = s.getPair q := by
  cases p <;> cases q <;> trivial -- one pair twice, against `h`, or two different fields

/-- Settles O27: a read after a write for registers and pairs; the operand R/M is the register or the byte at HL. -/
theorem operandsAreRegistersPairsAndMemory : Obligations.OperandsAreRegistersPairsAndMemory := by
  refine ⟨fun r q v s => ?register, fun s => ⟨rfl, rfl, rfl⟩, fun s => ⟨rfl, rfl, rfl, rfl⟩, fun p q w s => ?pair,
    fun hi lo => ⟨hiByte_joinBytes hi lo, loByte_joinBytes hi lo, toNat_joinBytes hi lo⟩,
    fun r v s => ⟨rfl, rfl⟩, fun v s => ⟨rfl, rfl⟩⟩
  case register =>
    split
    · next h => rw [h, State.getReg_setReg_same]
    · next h => exact State.getReg_setReg_ne h v s
  case pair =>
    split
    · next h => rw [h, State.getPair_setPair_same]
    · next h => exact State.getPair_setPair_ne h w s

end Sys2Proof.Machine
end

/-! SUPPORT. What an instruction leaves unchanged, one clause of `10_state.md` R39 at a time: the control state, SP, the
flags (R28), `pc` (R25) and the registers. -/
section
namespace Sys2Proof.Machine

/-- What holds of the state an instruction is known to answer holds of any state it answers. -/
theorem of_exec {i : Instr} {s t : State} {P : State → Prop} (hex : ∃ u, exec i s = .next u ∧ P u)
    (h : exec i s = .next t) : P t := by
  obtain ⟨u, hu, hp⟩ := hex
  exact Host.Outcome.next.inj (hu.symm.trans h) ▸ hp

/-! ### The control state and SP -/

/-- From `s` to `t` IE, the masks, the RST 7.5 latch, SOD and the halt state stay. -/
def State.ControlKept (s t : State) : Prop :=
  t.ie = s.ie ∧ (t.m75, t.m65, t.m55, t.r75, t.sod) = (s.m75, s.m65, s.m55, s.r75, s.sod) ∧ t.halted = s.halted

/-- Four instructions write the control state; an update of other fields leaves it, and so does every access to an
operand, the stack, a port or memory, by the laws of the accesses. -/
theorem exec_controlKept {i : Instr} (hi : i ∉ [.ei, .di, .sim, .hlt]) (s : State) :
    ∃ t, exec i s = .next t ∧ s.ControlKept t := by
  cases i with
  | ei | di | sim | hlt => simp at hi
  | xchg | aci | adi | sbi | sui | daa | ani | ori | xri | cma | cpi | cmc | stc | rlc | ral | rrc | rar
  | jmp | pchl | nop | sphl => exact ⟨_, rfl, rfl, rfl, rfl⟩
  | mov | mvi | inr | dcr | add | adc | sub | sbb | ana | ora | xra | cmp | lxi | inx | dcx | dad
  | lda | lhld | ldax | sta | shld | stax | xthl | push | pop | inp | out | rim
  | call | ret | rst | jnz | jz | jnc | jc | jpo | jpe | jp | jm
  | cnz | cz | cnc | cc | cpo | cpe | cp | cm | rnz | rz | rnc | rc | rpo | rpe | rp | rm =>
    exact ⟨_, rfl, by simp [State.ControlKept]⟩

theorem State.setPair_sp_of_not_sp {rp : Pair} (h : pairIsSp rp = false) (v : Word) (s : State) :
    (s.setPair rp v).sp = s.sp := by
  cases rp with
  | bc | de | hl => rfl
  | sp => cases h

/-- Every instruction outside R39's list leaves SP. -/
theorem exec_sp_kept {i : Instr} (hi : writesSp i = false) (s : State) : ∃ t, exec i s = .next t ∧ t.sp = s.sp := by
  cases i with
  | lxi rp | inx rp | dcx rp => exact ⟨_, rfl, State.setPair_sp_of_not_sp hi _ s⟩
  | dad | xchg | aci | adi | sbi | sui | daa | ani | ori | xri | cma | cpi | cmc | stc | rlc | ral | rrc | rar
  | jmp | pchl | nop | hlt | ei | di | sim => exact ⟨_, rfl, rfl⟩
  | mov | mvi | inr | dcr | add | adc | sub | sbb | ana | ora | xra | cmp
  | lda | lhld | ldax | sta | shld | stax | xthl | inp | out | rim
  | jnz | jz | jnc | jc | jpo | jpe | jp | jm => exact ⟨_, rfl, by simp⟩
  | _ => cases hi

/-- Settles O21: a writer of the control state is one of four instructions, and each of those writes only its own. -/
theorem controlStateHasOnlyItsWriters : Obligations.ControlStateHasOnlyItsWriters := by
  intro i s t h
  obtain ⟨hparams, hnow, henv, -⟩ := envKept_of_exec h
  have hsp : t.sp ≠ s.sp → writesSp i = true := fun hne =>
    Bool.eq_true_of_not_eq_false fun hi => hne (of_exec (exec_sp_kept hi s) h)
  by_cases hi : i ∈ [.ei, .di, .sim, .hlt]
  · simp only [List.mem_cons, List.not_mem_nil, or_false] at hi
    rcases hi with rfl | rfl | rfl | rfl
    all_goals obtain rfl := Host.Outcome.next.inj h
    · exact ⟨fun _ => .inl rfl, fun hne => absurd rfl hne, fun hne => absurd rfl hne, hsp, hparams, henv, hnow⟩
    · exact ⟨fun _ => .inr rfl, fun hne => absurd rfl hne, fun hne => absurd rfl hne, hsp, hparams, henv, hnow⟩
    · exact ⟨fun hne => absurd rfl hne, fun _ => rfl, fun hne => absurd rfl hne, hsp, hparams, henv, hnow⟩
    · exact ⟨fun hne => absurd rfl hne, fun hne => absurd rfl hne, fun _ => rfl, hsp, hparams, henv, hnow⟩
  · obtain ⟨hie, hirq, hhalted⟩ := of_exec (exec_controlKept hi s) h
    exact ⟨fun hne => absurd hie hne, fun hne => absurd hirq hne, fun hne => absurd hhalted hne, hsp,
      hparams, henv, hnow⟩

/-! ### The flags -/

theorem State.setStackPair_flags_of_not_psw {rp : StackPair} (h : popKeepsFlags rp = true) (v : Word) (s : State) :
    (s.setStackPair rp v).flags = s.flags := by
  cases rp with
  | bc | de | hl => rfl
  | psw => cases h

/-- The rows of R28 with no flag written. -/
theorem exec_flags_kept {i : Instr} (hi : keepsFlags i = true) (s : State) :
    ∃ t, exec i s = .next t ∧ t.flags = s.flags := by
  cases i with
  | pop rp => exact ⟨_, rfl, by simp [State.setStackPair_flags_of_not_psw hi]⟩
  | xchg | cma | jmp | pchl | nop | hlt | sphl | ei | di | sim => exact ⟨_, rfl, rfl⟩
  | mov | mvi | lxi | inx | dcx | lda | lhld | ldax | sta | shld | stax | xthl | push | inp | out | rim
  | call | ret | rst | jnz | jz | jnc | jc | jpo | jpe | jp | jm
  | cnz | cz | cnc | cc | cpo | cpe | cp | cm | rnz | rz | rnc | rc | rpo | rpe | rp | rm => exact ⟨_, rfl, by simp⟩
  | _ => cases hi

/-- The rows of R28 that write CY alone. -/
theorem exec_writesCarryOnly {i : Instr} (hi : writesCarryOnly i = true) (s : State) :
    ∃ t, exec i s = .next t ∧ t.flags = { s.flags with cy := t.flags.cy } := by
  cases i with
  | dad | cmc | stc | rlc | ral | rrc | rar => exact ⟨_, rfl, rfl⟩
  | _ => cases hi

/-- INR and DCR compute all five flags and put CY back. -/
theorem exec_cy_kept {i : Instr} {o : Operand8} (hi : i = .inr o ∨ i = .dcr o) (s : State) :
    ∃ t, exec i s = .next t ∧ t.flags.cy = s.flags.cy := by
  rcases hi with rfl | rfl
  · exact ⟨_, rfl, by simp⟩
  · exact ⟨_, rfl, by simp⟩

/-- Settles O22: one lemma for each kind of row of R28. -/
theorem flagsChangeOnlyAsListed : Obligations.FlagsChangeOnlyAsListed := fun _ s _ h =>
  ⟨fun hi => of_exec (exec_flags_kept hi s) h, fun hi => of_exec (exec_writesCarryOnly hi s) h,
    fun ⟨_, hi⟩ => of_exec (exec_cy_kept hi s) h⟩

/-! ### The registers and pc -/

/-- From `s` to `t` every register outside the list reads as before. -/
def State.RegsKept (rs : List Reg) (s t : State) : Prop := ∀ r, r ∉ rs → t.getReg r = s.getReg r

/-- Register by register: what is left to show of an update are the fields outside the list. -/
theorem State.regsKept_iff {rs : List Reg} {s t : State} : s.RegsKept rs t ↔
    (.a ∉ rs → t.a = s.a) ∧ (.b ∉ rs → t.b = s.b) ∧ (.c ∉ rs → t.c = s.c) ∧ (.d ∉ rs → t.d = s.d) ∧
      (.e ∉ rs → t.e = s.e) ∧ (.h ∉ rs → t.h = s.h) ∧ (.l ∉ rs → t.l = s.l) := by
  constructor
  · exact fun k => ⟨k .a, k .b, k .c, k .d, k .e, k .h, k .l⟩
  · rintro ⟨a, b, c, d, e, h, l⟩ r
    cases r <;> assumption

theorem State.RegsKept.trans {rs : List Reg} {s t u : State} (hst : s.RegsKept rs t) (htu : t.RegsKept rs u) :
    s.RegsKept rs u := fun r hr => (htu r hr).trans (hst r hr)

theorem State.advance_regsKept (len : Word) (rs : List Reg) (s : State) : s.RegsKept rs (s.advance len) := by
  simp [State.regsKept_iff]

/-- Reading an operand writes no register; the flags an instruction writes in between are none. -/
theorem State.rd8_regsKept (o : Operand8) (f : Flags) (rs : List Reg) (s : State) :
    s.RegsKept rs { (s.rd8 o).2 with flags := f } := by
  simp [State.regsKept_iff]

theorem State.wr8_regsKept (o : Operand8) (v : Byte) (s : State) : s.RegsKept (operandRegs o) (s.wr8 o v) := by
  cases o with
  | reg r => exact fun q hq => State.getReg_setReg_ne (List.ne_of_not_mem_cons hq) v s
  | m => simp [State.regsKept_iff, State.wr8]

theorem State.setPair_regsKept (rp : Pair) (v : Word) (s : State) : s.RegsKept (pairRegs rp) (s.setPair rp v) := by
  cases rp <;> simp [State.regsKept_iff, pairRegs, State.setPair]

theorem State.setStackPair_regsKept (rp : StackPair) (v : Word) (s : State) :
    s.RegsKept (poppedRegs rp) (s.setStackPair rp v) := by
  cases rp with
  | bc => exact s.setPair_regsKept .bc v
  | de => exact s.setPair_regsKept .de v
  | hl => exact s.setPair_regsKept .hl v
  | psw => simp [State.regsKept_iff, poppedRegs, State.setStackPair]

theorem State.pop16_regsKept (rs : List Reg) (s : State) : s.RegsKept rs s.pop16.2 := by
  simp [State.regsKept_iff]

/-- R39 for the registers: where the destination is an operand or a pair by the frame of its one write, else field by
field. -/
theorem exec_regsKept (i : Instr) (s : State) : ∃ t, exec i s = .next t ∧ s.RegsKept (writtenRegs i) t := by
  cases i with
  | mov dst src =>
    have hread := s.rd8_regsKept src (s.rd8 src).2.flags (operandRegs dst)
    exact ⟨_, rfl, (hread.trans (State.wr8_regsKept dst _ _)).trans (State.advance_regsKept _ _ _)⟩
  | mvi dst d8 => exact ⟨_, rfl, (s.wr8_regsKept dst d8).trans (State.advance_regsKept _ _ _)⟩
  | inr dst | dcr dst =>
    exact ⟨_, rfl, ((s.rd8_regsKept dst _ _).trans (State.wr8_regsKept dst _ _)).trans (State.advance_regsKept _ _ _)⟩
  | lxi rp | inx rp | dcx rp => exact ⟨_, rfl, (s.setPair_regsKept rp _).trans (State.advance_regsKept _ _ _)⟩
  | pop rp =>
    have hpop := s.pop16_regsKept (poppedRegs rp)
    exact ⟨_, rfl, (hpop.trans (State.setStackPair_regsKept rp _ _)).trans (State.advance_regsKept _ _ _)⟩
  | add | adc | sub | sbb | ana | ora | xra | adi | aci | sui | sbi | ani | ori | xri | daa | cma
  | rlc | ral | rrc | rar | lda | ldax | inp | rim | xchg =>
    exact ⟨_, rfl, by simp [State.regsKept_iff, writtenRegs]⟩
  | lhld | xthl | dad => exact ⟨_, rfl, by simp [State.regsKept_iff, writtenRegs, State.setPair]⟩
  | sta | shld | stax | push | out | cmp | cpi | cmc | stc | nop | hlt | sphl | ei | di | sim
  | jmp | pchl | jnz | jz | jnc | jc | jpo | jpe | jp | jm
  | call | rst | cnz | cz | cnc | cc | cpo | cpe | cp | cm
  | ret | rnz | rz | rnc | rc | rpo | rpe | rp | rm => exact ⟨_, rfl, by simp [State.regsKept_iff]⟩

/-- An instruction that is no transfer and not HLT ends with `pc <- next`, and no access it makes moves `pc`. -/
theorem exec_pc_next {i : Instr} (hi : writesPc i = false) (s : State) :
    ∃ t, exec i s = .next t ∧ t.pc = s.pc + BitVec.ofNat 16 i.length := by
  cases i with
  | dad | xchg | aci | adi | sbi | sui | daa | ani | ori | xri | cma | cpi | cmc | stc | rlc | ral | rrc | rar
  | nop | sphl | ei | di | sim => exact ⟨_, rfl, rfl⟩
  | mov | mvi | inr | dcr | add | adc | sub | sbb | ana | ora | xra | cmp | lxi | inx | dcx
  | lda | lhld | ldax | sta | shld | stax | xthl | push | pop | inp | out | rim =>
    exact ⟨_, rfl, by simp [Instr.length]⟩
  | _ => cases hi

/-- Settles O24: the registers by the writes each instruction makes, `pc` by its last update. -/
theorem registersAndPcChangeOnlyAsListed : Obligations.RegistersAndPcChangeOnlyAsListed := fun i s _ h =>
  ⟨of_exec (exec_regsKept i s) h, fun hi => of_exec (exec_pc_next hi s) h⟩

end Sys2Proof.Machine
end

/-! SUPPORT. The RST 7.5 latch (`10_state.md` R32, `60_exceptions.md` R253) and the state after reset (R40). -/
section
namespace Sys2Proof.Machine

/-- An edge at the boundary latches, whatever the masks, and a request latched before it stays (R253). -/
theorem State.sample_r75_iff (s : State) :
    s.sample.r75 = true ↔ s.r75 = true ∨ (s.env.headD Boundary.quiet).edge75 = true := Bool.or_eq_true_iff

/-- Accepting a source clears the latch of RST 7.5 only for RST 7.5 itself (R256). -/
theorem rst75_of_takeInterrupt_clears {src : Source} {s t : State} (h : s.takeInterrupt src = .next t)
    (hs : s.r75 = true) (ht : t.r75 = false) : src = .rst75 := by
  rcases s.takeInterrupt_cases src with ⟨k, target, e, -, -⟩ | ⟨-, op, e⟩
  · obtain rfl := Host.Outcome.next.inj (e.symm.trans h)
    by_contra hne
    simp [State.accepting, hne, hs] at ht
  · cases e.symm.trans h

/-- The one instruction that clears the latch is SIM, with accumulator bit 4 set (R241). -/
theorem sim_of_exec_clears_r75 {i : Instr} {s t : State} (h : exec i s = .next t) (hs : s.r75 = true)
    (ht : t.r75 = false) : i = .sim ∧ s.a.getLsbD 4 = true := by
  obtain ⟨-, hirq, -⟩ := controlStateHasOnlyItsWriters i s t h
  obtain rfl : i = .sim := hirq (by simp [hs, ht])
  obtain rfl := Host.Outcome.next.inj h
  exact ⟨rfl, by simpa [hs] using ht⟩

/-- Settles O14: by the four things a step can do, with the latch set once the boundary is sampled. -/
theorem rst75RequestStaysUntilCleared : Obligations.Rst75RequestStaysUntilCleared := by
  intro s t h hset ht
  have hs : s.sample.r75 = true := s.sample_r75_iff.mpr hset
  rcases step_cases h with ⟨hreset, -⟩ | ⟨src, -, hacc, hi⟩ | ⟨-, -, -, rfl⟩ | ⟨i, hexec, hdecode, hx⟩
  · exact .inl hreset
  · exact .inr (.inl (rst75_of_takeInterrupt_clears hi hs ht ▸ hacc))
  · rw [hs] at ht
    cases ht
  · obtain ⟨rfl, hbit⟩ := sim_of_exec_clears_r75 hx (by simpa using hs) ht
    exact .inr (.inr ⟨hexec, by simpa using hbit, hdecode⟩)

/-- With no map given, every address is `ram` (`20_memory.md` R66). -/
theorem regionOf_reset (a : Word) : regionOf State.reset.params a = .ram := rfl

theorem State.inv_reset : State.reset.Inv := ⟨Memory.wf_reset, Bool.noConfusion⟩

/-- Settles O16: each value is the one `State.reset` is written with, and the map and the invariant are the two above. -/
theorem resetStateMeetsTheInvariant : Obligations.ResetStateMeetsTheInvariant :=
  ⟨rfl, rfl, rfl, rfl, rfl, rfl, rfl, rfl, rfl, rfl, rfl, rfl, regionOf_reset, State.inv_reset⟩

end Sys2Proof.Machine
end

/-! SUPPORT. The stack: what a push stores is what the next pop reads (`20_memory.md` R54, R57). -/
section
namespace Sys2Proof.Machine

theorem State.memWrite_of_ram {s : State} {addr : Word} (hr : regionOf s.params addr = .ram) (v : Byte) :
    s.memWrite addr v = { s with mem := Memory.set s.mem addr.toNat v } := by
  simp [State.memWrite, hr]

theorem State.push16_of_ram {s : State} (h1 : regionOf s.params (s.sp - 1#16) = .ram)
    (h2 : regionOf s.params (s.sp - 2#16) = .ram) (v : Word) :
    s.push16 v = { s with
      mem := Memory.set (Memory.set s.mem (s.sp - 1#16).toNat (hiByte v)) (s.sp - 2#16).toNat (loByte v)
      sp := s.sp - 2#16 } := by
  simp [State.push16, State.memWrite_of_ram, h1, h2]

/-- A pop in a state that has the memory, SP and parameters a push left gives back the word and SP. -/
theorem State.pop16_after_push16 {s t : State} {v : Word} (h1 : regionOf s.params (s.sp - 1#16) = .ram)
    (h2 : regionOf s.params (s.sp - 2#16) = .ram) (hmem : t.mem = (s.push16 v).mem) (hsp : t.sp = s.sp - 2#16)
    (hparams : t.params = s.params) : t.pop16 = (v, { t with sp := s.sp }) := by
  have hnext : t.sp + 1#16 = s.sp - 1#16 := by rw [hsp]; bv_omega
  have hback : t.sp + 2#16 = s.sp := by rw [hsp]; bv_omega
  have hcells : (s.sp - 1#16).toNat ≠ (s.sp - 2#16).toNat := by bv_omega
  have hlo : Memory.get? t.mem t.sp.toNat = some (loByte v) := by
    rw [hmem, hsp, State.push16_of_ram h1 h2, Memory.get?_set_same]
  have hhi : Memory.get? t.mem (t.sp + 1#16).toNat = some (hiByte v) := by
    rw [hmem, hnext, State.push16_of_ram h1 h2, Memory.get?_set_ne _ _ hcells, Memory.get?_set_same]
  have hpop := State.pop16_of_cells (.inl (by rw [hparams, hsp, h2])) (.inl (by rw [hparams, hnext, h1])) hlo hhi
  rw [hpop, hback, joinBytes_hiByte_loByte]

theorem exec_pop_of_pop16 {s t : State} {v : Word} (rp : StackPair) (h : s.pop16 = (v, t)) :
    exec (.pop rp) s = .next ((t.setStackPair rp v).advance 1#16) := by
  show Host.Outcome.next ((s.pop16.2.setStackPair rp s.pop16.1).advance 1#16) = _
  rw [h]

/-- POP PSW of the word `A ++ F` into the registers it was made of changes nothing, whatever the unused bits. -/
theorem State.setStackPair_psw_self (u : BitVec 3) (s : State) :
    s.setStackPair .psw (joinBytes s.a (s.flags.toByte u)) = s := by
  simp [State.setStackPair]

/-- After PUSH, the next pop reads the word PUSH stored and takes SP back; A and the flags are those before it. -/
theorem exec_push_then_pop16 {s : State} (h1 : regionOf s.params (s.sp - 1#16) = .ram)
    (h2 : regionOf s.params (s.sp - 2#16) = .ram) (rp : StackPair) :
    ∃ t, exec (.push rp) s = .next t ∧ t.a = s.a ∧ t.flags = s.flags ∧ t.pc = s.pc + 1#16 ∧
      t.pop16 = ((s.stackPairValue rp).1, { t with sp := s.sp }) := by
  refine ⟨_, rfl, by simp, by simp, by simp, ?_⟩
  rw [← State.stackPairValue_sp rp s, ← State.stackPairValue_params rp s] at h1 h2
  exact Eq.trans (State.pop16_after_push16 h1 h2 rfl rfl (by simp)) (by rw [State.stackPairValue_sp])

/-- Settles O51: the pop reads back `A ++ F`, and POP PSW takes the five flags out of `F` whatever the free bits. -/
theorem pushPswThenPopPswRestores : Obligations.PushPswThenPopPswRestores := by
  intro s h1 h2
  obtain ⟨t, hpush, ha, hf, hpc, hpop⟩ := exec_push_then_pop16 h1 h2 .psw
  have hword : (s.stackPairValue .psw).1 = joinBytes t.a (t.flags.toByte (Config.freePswBits s.draws)) := by
    rw [ha, hf]; rfl
  have hself : { t with sp := s.sp }.setStackPair .psw (s.stackPairValue .psw).1 = { t with sp := s.sp } :=
    hword ▸ State.setStackPair_psw_self (Config.freePswBits s.draws) { t with sp := s.sp }
  have hnext : t.pc + 1#16 = s.pc + 2#16 := by rw [hpc]; bv_omega
  refine ⟨t, hpush, ha, hf, ?_⟩
  rw [exec_pop_of_pop16 .psw hpop, hself, State.advance, hnext]

end Sys2Proof.Machine
end

/-! SUPPORT. Memory under the instructions and the step: what an instruction stores to (`20_memory.md` R59, the table of
effective addresses of `40_data_transfer.md`), and the invariant (`20_memory.md` R50, `70_reset_and_hazards.md` R285). -/
section
namespace Sys2Proof.Machine

/-- Memory `n` is memory `m` after any number of stores to addresses of the list, in any order. -/
inductive Memory.Stored (addrs : List Word) (m : Memory) : Memory → Prop
  | refl : Stored addrs m m
  | set {n : Memory} {x : Word} (hn : Stored addrs m n) (hx : x ∈ addrs) (v : Byte) :
      Stored addrs m (Memory.set n x.toNat v)

/-- An address outside the list reads as before the stores. -/
theorem Memory.Stored.get?_eq {addrs : List Word} {m n : Memory} (h : Memory.Stored addrs m n) {x : Word}
    (hx : x ∉ addrs) : Memory.get? n x.toNat = Memory.get? m x.toNat := by
  induction h with
  | refl => rfl
  | @set n y _ hy v ih =>
    have hne : x.toNat ≠ y.toNat := fun e => hx (BitVec.eq_of_toNat_eq e ▸ hy)
    rw [Memory.get?_set_ne n v hne, ih]

/-- Stores to 16-bit addresses keep the canonical form. -/
theorem Memory.Stored.wf {addrs : List Word} {m n : Memory} (h : Memory.Stored addrs m n)
    (hm : Memory.wf m = true) : Memory.wf n = true := by
  induction h with
  | refl => exact hm
  | @set _ x _ _ v ih => exact Memory.wf_set ih x.isLt v

/-! ### The operations that store -/

theorem State.memWrite_stored {addrs : List Word} {m : Memory} {s : State} (h : Memory.Stored addrs m s.mem)
    {addr : Word} (ha : addr ∈ addrs) (v : Byte) : Memory.Stored addrs m (s.memWrite addr v).mem := by
  rcases s.memWrite_cases addr v with ⟨-, e⟩ | ⟨-, e⟩ | ⟨-, e⟩ <;> rw [e]
  · exact h.set ha v
  · exact h
  · exact h

theorem State.push16_stored (v : Word) (s : State) : Memory.Stored s.pushCells s.mem (s.push16 v).mem := by
  have hhigh : Memory.Stored s.pushCells s.mem (s.memWrite (s.sp - 1#16) (hiByte v)).mem :=
    memWrite_stored .refl (by simp [State.pushCells]) _
  exact memWrite_stored hhigh (by simp [State.pushCells]) _

theorem State.wr8_stored (o : Operand8) (v : Byte) (s : State) :
    Memory.Stored (operandCells s o) s.mem (s.wr8 o v).mem := by
  cases o with
  | reg r => exact State.setReg_mem r v s ▸ .refl
  | m => exact memWrite_stored .refl (List.mem_singleton_self _) v

/-- The read-modify-write of an operand: the read moves no pointer and the flags are no part of an address. -/
theorem State.wr8_after_rd8_stored (dst src : Operand8) (f : Flags) (v : Byte) (s : State) :
    Memory.Stored (operandCells s dst) s.mem (State.wr8 dst v { (s.rd8 src).2 with flags := f }).mem := by
  have hstored := State.wr8_stored dst v { (s.rd8 src).2 with flags := f }
  cases dst <;> simpa [operandCells, State.hl] using hstored

/-- A conditional call stores to the stack only when it is taken. -/
theorem State.callIf_stored {addrs : List Word} {cond : Cond} {s : State}
    (ha : s.flags.holds cond = true → addrs = s.pushCells) (a16 : Word) :
    Memory.Stored addrs s.mem (s.callIf cond a16).mem := by
  rcases s.callIf_cases cond a16 with ⟨htaken, e⟩ | ⟨-, e⟩ <;> rw [e]
  · exact ha htaken ▸ s.push16_stored _
  · exact .refl

/-! ### The instructions -/

/-- An instruction changes memory by stores to the addresses `storedTo` lists for it, and in no other way. -/
theorem exec_stored (i : Instr) (s : State) :
    ∃ t, exec i s = .next t ∧ Memory.Stored (storedTo i s) s.mem t.mem := by
  cases i with
  | mov dst src => exact ⟨_, rfl, s.wr8_after_rd8_stored dst src (s.rd8 src).2.flags _⟩
  | inr dst | dcr dst => exact ⟨_, rfl, s.wr8_after_rd8_stored dst dst _ _⟩
  | mvi dst d8 => exact ⟨_, rfl, s.wr8_stored dst d8⟩
  | sta | stax => exact ⟨_, rfl, State.memWrite_stored .refl (List.mem_singleton_self _) _⟩
  | shld a16 =>
    have hlow : Memory.Stored [a16, a16 + 1#16] s.mem (s.memWrite a16 s.l).mem :=
      State.memWrite_stored .refl (by simp) _
    exact ⟨_, rfl, State.memWrite_stored hlow (by simp) s.h⟩
  | xthl =>
    have hread : Memory.Stored [s.sp, s.sp + 1#16] s.mem ((s.memRead s.sp).2.memRead (s.sp + 1#16)).2.mem := by
      simpa using .refl
    have hhigh := State.memWrite_stored hread (addr := s.sp + 1#16) (by simp) s.h
    exact ⟨_, rfl, State.memWrite_stored hhigh (by simp) s.l⟩
  | push rp =>
    have hpush := State.push16_stored (s.stackPairValue rp).1 (s.stackPairValue rp).2
    exact ⟨_, rfl, by simpa [storedTo, State.pushCells] using hpush⟩
  | call | rst => exact ⟨_, rfl, s.push16_stored _⟩
  | cz | cc | cpe | cm =>
    refine ⟨_, rfl, State.callIf_stored (fun hflag => ?_) _⟩
    exact if_pos hflag
  | cnz | cnc | cpo | cp =>
    refine ⟨_, rfl, State.callIf_stored (fun hflag => ?_) _⟩
    exact if_neg (by simpa [Flags.holds] using hflag)
  | xchg | aci | adi | sbi | sui | daa | dad | ani | ori | xri | cma | cpi | cmc | stc | rlc | ral | rrc | rar
  | jmp | pchl | nop | hlt | sphl | ei | di | sim | out => exact ⟨_, rfl, .refl⟩
  | add | adc | sub | sbb | ana | ora | xra | cmp | lxi | inx | dcx | lda | lhld | ldax | pop | inp | rim
  | jnz | jz | jnc | jc | jpo | jpe | jp | jm
  | ret | rnz | rz | rnc | rc | rpo | rpe | rp | rm => exact ⟨_, rfl, by simpa using .refl⟩

/-- EI alone writes the shadow (`70_reset_and_hazards.md` R285). -/
theorem exec_eiShadow_kept {i : Instr} (hi : i ≠ .ei) (s : State) :
    ∃ t, exec i s = .next t ∧ t.eiShadow = s.eiShadow := by
  cases i with
  | ei => exact absurd rfl hi
  | xchg | aci | adi | sbi | sui | daa | ani | ori | xri | cma | cpi | cmc | stc | rlc | ral | rrc | rar
  | jmp | pchl | nop | hlt | sphl | di | sim => exact ⟨_, rfl, rfl⟩
  | mov | mvi | inr | dcr | add | adc | sub | sbb | ana | ora | xra | cmp | lxi | inx | dcx | dad
  | lda | lhld | ldax | sta | shld | stax | xthl | push | pop | inp | out | rim
  | call | ret | rst | jnz | jz | jnc | jc | jpo | jpe | jp | jm
  | cnz | cz | cnc | cc | cpo | cpe | cp | cm | rnz | rz | rnc | rc | rpo | rpe | rp | rm => exact ⟨_, rfl, by simp⟩

/-- Settles O23: what `storedTo` does not list no store of the instruction reaches. -/
theorem memoryChangesOnlyWhereStored : Obligations.MemoryChangesOnlyWhereStored := fun i s _ h _ hx =>
  (of_exec (exec_stored i s) h).get?_eq hx

/-! ### The invariant -/

/-- An EI sets the shadow only under `EI_DELAY = one_instruction`, every other instruction keeps it. -/
theorem inv_of_exec {i : Instr} {s t : State} (hs : s.Inv) (h : exec i s = .next t) : t.Inv := by
  obtain ⟨hwf, hshadow⟩ := hs
  refine ⟨(of_exec (exec_stored i s) h).wf hwf, ?_⟩
  by_cases hi : i = .ei
  · subst hi
    obtain rfl := Host.Outcome.next.inj h
    exact of_decide_eq_true
  · obtain ⟨hparams, -⟩ := envKept_of_exec h
    rwa [of_exec (exec_eiShadow_kept hi s) h, hparams]

theorem State.callTo_inv (back target : Word) {s : State} (hs : s.Inv) : (s.callTo back target).Inv := by
  obtain ⟨hwf, hshadow⟩ := hs
  exact ⟨State.push16_wf back hwf, by simpa using hshadow⟩

/-- The acceptance of an interrupt is a call from a state with the memory and the shadow of before. -/
theorem inv_of_takeInterrupt {src : Source} {s t : State} (hs : s.Inv) (h : s.takeInterrupt src = .next t) :
    t.Inv := by
  rcases s.takeInterrupt_cases src with ⟨k, target, e, -, -⟩ | ⟨-, op, e⟩
  · obtain rfl := Host.Outcome.next.inj (e.symm.trans h)
    have haccepting : State.Inv { s.accepting src with draws := k } := hs
    exact State.callTo_inv s.pc target haccepting
  · cases e.symm.trans h

/-- Settles O17: by the four things a step can do; sampling and the fetch touch neither the memory nor the shadow. -/
theorem everyStepKeepsTheInvariant : Obligations.EveryStepKeepsTheInvariant := by
  intro s t hs h
  have hsample : s.sample.Inv := hs
  obtain ⟨hwf, -⟩ := hs
  rcases step_cases h with ⟨-, rfl⟩ | ⟨src, -, -, hi⟩ | ⟨-, -, -, rfl⟩ | ⟨i, -, -, hx⟩
  · exact ⟨hwf, Bool.noConfusion⟩
  · exact inv_of_takeInterrupt hsample hi
  · exact hsample
  · have hfetch : State.Inv { s.sample.fetch.2 with eiShadow := false } := ⟨by simpa using hwf, Bool.noConfusion⟩
    exact inv_of_exec hfetch hx

end Sys2Proof.Machine
end

/-! SUPPORT. The accesses to memory and ports by what answers there (`20_memory.md` R59, R66, R67). -/
section
namespace Sys2Proof.Machine

/-! ### The environment's answer -/

theorem State.envAnswer_of_cons {s : State} {v : Byte} {rest : List Byte} (h : s.answers = v :: rest) :
    s.envAnswer = (v, { s with answers := rest }) := by
  simp [State.envAnswer, h]

theorem State.envAnswer_of_nil {s : State} (h : s.answers = []) : s.envAnswer = s.drawByte := by
  simp [State.envAnswer, h]

/-- An answer is some byte, and taking it changes at most the queue and the counter of free values. -/
theorem State.envAnswer_eq (s : State) :
    ∃ v answers k, s.envAnswer = (v, { s with answers := answers, draws := k }) := by
  rcases s.envAnswer_cases with ⟨v, rest, -, e⟩ | ⟨-, e⟩
  · exact ⟨v, rest, s.draws, e⟩
  · exact ⟨_, s.answers, s.draws + 1, e⟩

/-! ### Memory by region -/

theorem State.memWrite_of_device {s : State} {addr : Word} (hr : regionOf s.params addr = .device) (v : Byte) :
    s.memWrite addr v = s.record (.deviceWrite addr v) := by
  simp [State.memWrite, hr]

theorem State.memWrite_of_rom_or_absent {s : State} {addr : Word}
    (hr : regionOf s.params addr = .rom ∨ regionOf s.params addr = .absent) (v : Byte) : s.memWrite addr v = s := by
  rcases hr with hr | hr <;> simp [State.memWrite, hr]

theorem State.memRead_of_absent {s : State} {addr : Word} (hr : regionOf s.params addr = .absent) :
    s.memRead addr = s.drawByte := by
  simp [State.memRead, hr]

/-- A cell that holds no value reads as a free byte (`10_state.md` R41, log 2). -/
theorem State.memRead_of_no_value {s : State} {addr : Word}
    (hr : regionOf s.params addr = .ram ∨ regionOf s.params addr = .rom)
    (hv : Memory.get? s.mem addr.toNat = none) : s.memRead addr = s.drawByte := by
  rcases hr with hr | hr <;> simp [State.memRead, hr, hv]

theorem State.memRead_of_device {s t : State} {addr : Word} {w : Byte} (hr : regionOf s.params addr = .device)
    (hw : s.envAnswer = (w, t)) : s.memRead addr = (w, t.record (.deviceRead addr w)) := by
  simp [State.memRead, hr, hw]

/-- `ram` reads back what was written to it. -/
theorem State.memRead_memWrite_same {s : State} {addr : Word} (hr : regionOf s.params addr = .ram) (v : Byte) :
    (s.memWrite addr v).memRead addr = (v, s.memWrite addr v) :=
  State.memRead_of_cell (.inl (by rwa [State.memWrite_params]))
    (by rw [State.memWrite_of_ram hr, Memory.get?_set_same])

/-- Settles O25: one law for each region and access. -/
theorem memoryAccessByRegion : Obligations.MemoryAccessByRegion := by
  intro s addr v
  refine ⟨fun hram => ⟨State.memRead_memWrite_same hram v, fun x hx => State.memWrite_get?_ne hx v s, ?_⟩,
    fun w ⟨hr, hv⟩ => State.memRead_of_cell hr hv, fun hr => State.memWrite_of_rom_or_absent hr v,
    fun hr => ⟨_, State.memRead_of_absent hr⟩, fun hr => ⟨State.memWrite_of_device hr v, ?_⟩,
    fun hr w rest hq => State.memRead_of_device hr (State.envAnswer_of_cons hq),
    fun hr hv => ⟨_, State.memRead_of_no_value hr hv⟩⟩
  · rw [State.memWrite_of_ram hram]
  · obtain ⟨w, answers, k, hw⟩ := s.envAnswer_eq
    exact ⟨w, answers, k, State.memRead_of_device hr hw⟩

/-- Settles O26: the push by its two stores to `ram`, the pop by what the push left there. -/
theorem pushThenPopGivesBackTheWord : Obligations.PushThenPopGivesBackTheWord := by
  refine ⟨fun s v h1 h2 => ?_, fun _ _ => rfl, fun _ => rfl⟩
  have hpush := State.push16_of_ram h1 h2 v
  have hcells : (s.sp - 1#16).toNat ≠ (s.sp - 2#16).toNat := by bv_omega
  refine ⟨?_, ?_, fun x hx => (s.push16_stored v).get?_eq hx, by rw [hpush],
    State.pop16_after_push16 h1 h2 rfl rfl (State.push16_params v s)⟩
  · rw [hpush, Memory.get?_set_ne _ _ hcells, Memory.get?_set_same]
  · rw [hpush, Memory.get?_set_same]

/-! ### Ports -/

/-- IN, by the answer its port read takes (R236). -/
theorem exec_inp_of_envAnswer {s t : State} {v : Byte} (h : s.envAnswer = (v, t)) (p8 : Byte) :
    exec (.inp p8) s = .next { t with a := v, log := t.log ++ [.ioRead p8 v], pc := t.pc + 2#16 } := by
  show execInp p8 s = _
  simp only [execInp, State.ioRead, h]
  rfl

/-- Settles O53: by the answer IN takes, whatever it is; OUT only records. -/
theorem portInputAndOutput : Obligations.PortInputAndOutput := by
  intro p8 s
  obtain ⟨v, answers, k, hv⟩ := s.envAnswer_eq
  exact ⟨rfl, rfl, ⟨v, answers, k, exec_inp_of_envAnswer hv p8⟩, rfl⟩

/-- Settles O54: by the answer IN takes from a queue that holds one, and from an empty one. -/
theorem portReadTakesTheNextAnswer : Obligations.PortReadTakesTheNextAnswer := fun p8 _ =>
  ⟨fun _ _ hq => exec_inp_of_envAnswer (State.envAnswer_of_cons hq) p8,
    fun hq => ⟨_, exec_inp_of_envAnswer (State.envAnswer_of_nil hq) p8⟩⟩

end Sys2Proof.Machine
end

/-! SUPPORT. The decoder and the encoder agree (`30_encoding.md` R80 to R89). The operand bytes reach the operand fields
and nothing else, so what the opcode map says of the first bytes is checked once, with operand bytes 0. -/
section
namespace Sys2Proof

/-- The first byte of an instruction's encoding. -/
def Instr.opcode (i : Instr) : Byte := (encode i).headD 0#8

/-- The instruction with other operand bytes in place of its own: `d8 = p8 = b2`, `d16 = a16 = b3 ++ b2` (R82). -/
def Instr.withOperands (b2 b3 : Byte) : Instr → Instr
  | .mvi dst _ => .mvi dst b2
  | .aci _ => .aci b2
  | .adi _ => .adi b2
  | .sbi _ => .sbi b2
  | .sui _ => .sui b2
  | .ani _ => .ani b2
  | .ori _ => .ori b2
  | .xri _ => .xri b2
  | .cpi _ => .cpi b2
  | .inp _ => .inp b2
  | .out _ => .out b2
  | .lxi pair _ => .lxi pair (joinBytes b3 b2)
  | .lda _ => .lda (joinBytes b3 b2)
  | .sta _ => .sta (joinBytes b3 b2)
  | .lhld _ => .lhld (joinBytes b3 b2)
  | .shld _ => .shld (joinBytes b3 b2)
  | .jmp _ => .jmp (joinBytes b3 b2)
  | .call _ => .call (joinBytes b3 b2)
  | .jnz _ => .jnz (joinBytes b3 b2)
  | .jz _ => .jz (joinBytes b3 b2)
  | .jnc _ => .jnc (joinBytes b3 b2)
  | .jc _ => .jc (joinBytes b3 b2)
  | .jpo _ => .jpo (joinBytes b3 b2)
  | .jpe _ => .jpe (joinBytes b3 b2)
  | .jp _ => .jp (joinBytes b3 b2)
  | .jm _ => .jm (joinBytes b3 b2)
  | .cnz _ => .cnz (joinBytes b3 b2)
  | .cz _ => .cz (joinBytes b3 b2)
  | .cnc _ => .cnc (joinBytes b3 b2)
  | .cc _ => .cc (joinBytes b3 b2)
  | .cpo _ => .cpo (joinBytes b3 b2)
  | .cpe _ => .cpe (joinBytes b3 b2)
  | .cp _ => .cp (joinBytes b3 b2)
  | .cm _ => .cm (joinBytes b3 b2)
  | i => i

/-! ### Length and operand bytes of an instruction -/

/-- The lemmas of Laws/PerInstr, one for each constructor, said of every instruction. -/
theorem encodedLength (i : Instr) : Laws.EncodedLength.Statement i := by
  open Laws.EncodedLength in
  cases i
  exacts [mov _ _, mvi _ _, lxi _ _, lda _, sta _, lhld _, shld _, ldax _, stax _, xchg,
    add _, adc _, aci _, adi _, sbb _, sub _, sbi _, sui _, inr _, dcr _, inx _, dcx _, daa, dad _,
    ana _, ani _, ora _, ori _, xra _, xri _, cma, cmp _, cpi _, cmc, stc, rlc, ral, rrc, rar,
    jmp _, pchl, call _, ret, xthl, jnz _, jz _, jnc _, jc _, jpo _, jpe _, jp _, jm _,
    cnz _, cz _, cnc _, cc _, cpo _, cpe _, cp _, cm _, rnz, rz, rnc, rc, rpo, rpe, rp, rm,
    nop, hlt, push _, pop _, rst _, sphl, inp _, out _, ei, di, rim, sim]

theorem length_encode (i : Instr) : (encode i).length = i.length := (encodedLength i).1

theorem length_bounds (i : Instr) : 1 ≤ i.length ∧ i.length ≤ 3 := (encodedLength i).2

@[simp] theorem length_withOperands (b2 b3 : Byte) (i : Instr) : (i.withOperands b2 b3).length = i.length := by
  cases i <;> rfl

@[simp] theorem wf_withOperands (b2 b3 : Byte) (i : Instr) : (i.withOperands b2 b3).wf = i.wf := by
  cases i <;> rfl

/-- Opcode, low-order byte, high-order byte, as many of them as the instruction is long (R80, R82). -/
theorem encode_withOperands (b2 b3 : Byte) (i : Instr) :
    encode (i.withOperands b2 b3) = [i.opcode, b2, b3].take i.length := by
  cases i with
  | lxi | lda | sta | lhld | shld | jmp | call | jnz | jz | jnc | jc | jpo | jpe | jp | jm | cnz | cz | cnc | cc
  | cpo | cpe | cp | cm => simp [Instr.withOperands, encode, threeBytes, Instr.opcode, Instr.length]
  | _ => rfl

/-- Operand bytes that an instruction's encoding already has change nothing. -/
theorem withOperands_eq_self {i : Instr} {op b2 b3 : Byte} (h : encode i = [op, b2, b3].take i.length) :
    i.withOperands b2 b3 = i := by
  cases i with
  | lxi | lda | sta | lhld | shld | jmp | call | jnz | jz | jnc | jc | jpo | jpe | jp | jm | cnz | cz | cnc | cc
  | cpo | cpe | cp | cm =>
    simp only [encode, threeBytes, Instr.length, List.take_succ_cons, List.take_zero, List.cons.injEq] at h
    obtain ⟨-, rfl, rfl, -⟩ := h
    simp [Instr.withOperands]
  | mvi | adi | aci | sui | sbi | ani | xri | ori | cpi | inp | out =>
    simp only [encode, Instr.length, List.take_succ_cons, List.take_zero, List.cons.injEq] at h
    obtain ⟨-, rfl, -⟩ := h
    rfl
  | _ => rfl

/-! ### The decoder puts the operand bytes into the operand fields -/

theorem decodeMisc_eq_map (op b2 b3 : Byte) :
    decodeMisc op b2 b3 = (decodeMisc op 0#8 0#8).map (Instr.withOperands b2 b3) := by
  simp only [decodeMisc]
  repeat' split
  all_goals rfl

theorem decodeMov_eq_map (op b2 b3 : Byte) : decodeMov op = (decodeMov op).map (Instr.withOperands b2 b3) := by
  unfold decodeMov
  split <;> rfl

theorem decodeAlu_eq_map (op b2 b3 : Byte) : decodeAlu op = (decodeAlu op).map (Instr.withOperands b2 b3) := by
  simp only [decodeAlu]
  split <;> rfl

theorem decodeControl_eq_map (op b2 b3 : Byte) :
    decodeControl op b2 b3 = (decodeControl op 0#8 0#8).map (Instr.withOperands b2 b3) := by
  simp only [decodeControl]
  repeat' split
  all_goals rfl

/-- The first byte alone decides all but the operand fields (R81, R82), quadrant by quadrant. -/
theorem decodeBytes_eq_map (op b2 b3 : Byte) :
    decodeBytes op b2 b3 = (decodeBytes op 0#8 0#8).map (Instr.withOperands b2 b3) := by
  unfold decodeBytes
  split
  · exact decodeMisc_eq_map op b2 b3
  · exact decodeMov_eq_map op b2 b3
  · exact decodeAlu_eq_map op b2 b3
  · exact decodeControl_eq_map op b2 b3

theorem length_eq_opcodeLength {op b2 b3 : Byte} {i : Instr} (h : decodeBytes op b2 b3 = some i) :
    i.length = opcodeLength op := by
  rw [decodeBytes_eq_map, Option.map_eq_some_iff] at h
  obtain ⟨j, hj, rfl⟩ := h
  rw [length_withOperands, opcodeLength, hj]

/-! ### The opcode map -/

/-- The opcode map (R88), read from the bytes: a first byte spells a well-formed instruction whose opcode it is. -/
theorem wf_and_opcode_of_decodeBytes {op : Byte} {i : Instr} (h : decodeBytes op 0#8 0#8 = some i) :
    i.wf = true ∧ i.opcode = op := by
  have hmap : ∀ op : Byte, (decodeBytes op 0#8 0#8).all (fun i => i.wf && i.opcode == op) = true := by
    decide +kernel
  simpa [h] using hmap op

/-- The bytes no instruction owns (R89), whatever comes after them. -/
theorem decodeBytes_eq_none_iff {op b2 b3 : Byte} :
    decodeBytes op b2 b3 = none ↔ op ∈ Machine.undefinedOpcodes := by
  have hmap : ∀ op : Byte, decodeBytes op 0#8 0#8 = none ↔ op ∈ Machine.undefinedOpcodes := by decide +kernel
  rw [decodeBytes_eq_map, Option.map_eq_none_iff, hmap]

/-- Every pair of operand codes but M, M, which is the pattern of HLT (R95). -/
theorem decodeBytes_opcode_mov {dst src : Operand8} (h : (Instr.mov dst src).wf = true) (b2 b3 : Byte) :
    decodeBytes (Instr.mov dst src).opcode b2 b3 = some (.mov dst src) := by
  cases dst with
  | reg r =>
    cases src with
    | reg q => cases r <;> cases q <;> rfl
    | m => cases r <;> rfl
  | m =>
    cases src with
    | reg q => cases q <;> rfl
    | m => cases h

theorem decodeBytes_opcode_rst (nnn : BitVec 3) (b2 b3 : Byte) :
    decodeBytes (Instr.rst nnn).opcode b2 b3 = some (.rst nnn) := by
  have hzero : ∀ n, decodeBytes (Instr.rst n).opcode 0#8 0#8 = some (.rst n) := by decide
  rw [decodeBytes_eq_map, hzero, Option.map_some]
  rfl

/-- The opcode map read from the instructions: one for each constructor, and for each code of its register field. -/
theorem decodeBytes_opcode {i : Instr} (h : i.wf = true) (b2 b3 : Byte) :
    decodeBytes i.opcode b2 b3 = some (i.withOperands b2 b3) := by
  cases i with
  | mov dst src => exact decodeBytes_opcode_mov h b2 b3
  | rst nnn => exact decodeBytes_opcode_rst nnn b2 b3
  | mvi o | inr o | dcr o | add o | adc o | sub o | sbb o | ana o | xra o | ora o | cmp o =>
    cases o with
    | reg r => cases r <;> simp only [Instr.opcode, encode, List.headD_cons] <;> rfl
    | m => simp only [Instr.opcode, encode, List.headD_cons]; rfl
  | lxi rp => cases rp <;> simp only [Instr.opcode, encode, threeBytes, List.headD_cons] <;> rfl
  | dad rp | inx rp | dcx rp | push rp | pop rp | ldax rp | stax rp => cases rp <;> rfl
  | _ => simp only [Instr.opcode, encode, threeBytes, List.headD_cons]; rfl

/-- What the decoder answers, in terms of the encoder alone; a byte the instruction is too short for is free. -/
theorem decodeBytes_eq_some_iff {op b2 b3 : Byte} {i : Instr} :
    decodeBytes op b2 b3 = some i ↔ i.wf = true ∧ encode i = [op, b2, b3].take i.length := by
  constructor
  · intro h
    rw [decodeBytes_eq_map, Option.map_eq_some_iff] at h
    obtain ⟨j, hj, rfl⟩ := h
    obtain ⟨hwf, rfl⟩ := wf_and_opcode_of_decodeBytes hj
    exact ⟨by rw [wf_withOperands, hwf], by rw [encode_withOperands, length_withOperands]⟩
  · rintro ⟨hwf, henc⟩
    have hop : i.opcode = op := by
      obtain ⟨n, hn⟩ := Nat.exists_eq_add_of_le' (length_bounds i).1
      rw [Instr.opcode, henc, hn, List.take_succ_cons, List.headD_cons]
    rw [← hop, decodeBytes_opcode hwf, withOperands_eq_self henc]

/-! ### Decoding a list of bytes -/

/-- The three bytes `decode` looks at are the head of the list, as far as the list goes. -/
theorem take_headD_bytes (op : Byte) {bs : List Byte} {n : Nat} (hn : n ≤ 3) (hbs : n ≤ bs.length + 1) :
    [op, bs.headD 0#8, bs.tail.headD 0#8].take n = (op :: bs).take n := by
  match bs with
  | [] => interval_cases n <;> simp_all
  | [_] => interval_cases n <;> simp_all
  | _ :: _ :: _ => interval_cases n <;> rfl

/-- An encoding is its opcode and operand bytes, as many of them as the instruction is long. -/
theorem exists_operand_bytes (i : Instr) : ∃ b2 b3, encode i = [i.opcode, b2, b3].take i.length := by
  obtain ⟨hmin, hmax⟩ := length_bounds i
  rw [← length_encode] at hmin hmax ⊢
  obtain ⟨op, bs, henc⟩ := List.exists_cons_of_length_pos hmin
  rw [henc, List.length_cons] at hmax
  refine ⟨bs.headD 0#8, bs.tail.headD 0#8, ?_⟩
  rw [Instr.opcode, henc, List.headD_cons, List.length_cons, take_headD_bytes op hmax (Nat.le_refl _)]
  exact List.take_length.symm

theorem decode_cons_eq_ok_iff {op : Byte} {bs rest : List Byte} {i : Instr} :
    decode (op :: bs) = .ok (i, rest) ↔
      i.length ≤ bs.length + 1 ∧ decodeBytes op (bs.headD 0#8) (bs.tail.headD 0#8) = some i ∧
        bs.drop (i.length - 1) = rest := by
  simp only [decode]
  cases hd : decodeBytes op (bs.headD 0#8) (bs.tail.headD 0#8) with
  | none => split <;> simp
  | some j =>
    rw [← length_eq_opcodeLength hd]
    by_cases hshort : bs.length + 1 < j.length
    · rw [if_pos hshort]
      refine ⟨nofun, fun ⟨hlen, hj, _⟩ => ?_⟩
      obtain rfl := Option.some.inj hj
      omega
    · rw [if_neg hshort]
      simp only [Except.ok.injEq, Prod.mk.injEq, Option.some.injEq]
      constructor
      · rintro ⟨rfl, hrest⟩
        exact ⟨Nat.not_lt.mp hshort, rfl, hrest⟩
      · rintro ⟨-, rfl, hrest⟩
        exact ⟨rfl, hrest⟩

/-- Decoding a list of bytes is the converse of encoding, in both directions at once (R88, R90). -/
theorem decode_eq_ok_iff {bytes rest : List Byte} {i : Instr} :
    decode bytes = .ok (i, rest) ↔ i.wf = true ∧ encode i ++ rest = bytes := by
  have hlen := length_encode i
  have hbounds := length_bounds i
  cases bytes with
  | nil =>
    refine ⟨nofun, fun ⟨_, hbytes⟩ => ?_⟩
    obtain ⟨hnil, -⟩ := List.append_eq_nil_iff.mp hbytes
    rw [hnil, List.length_nil] at hlen
    omega
  | cons op bs =>
    obtain ⟨n, hn⟩ := Nat.exists_eq_add_of_le' hbounds.1
    rw [decode_cons_eq_ok_iff, decodeBytes_eq_some_iff, hn, Nat.add_sub_cancel]
    constructor
    · rintro ⟨hbs, ⟨hwf, henc⟩, rfl⟩
      rw [henc, take_headD_bytes op (by omega) hbs]
      exact ⟨hwf, List.take_append_drop (n + 1) (op :: bs)⟩
    · rintro ⟨hwf, hbytes⟩
      have hbs : n + 1 ≤ bs.length + 1 := by
        rw [← List.length_cons, ← hbytes, List.length_append]
        omega
      refine ⟨hbs, ⟨hwf, ?_⟩, ?_⟩
      · rw [take_headD_bytes op (by omega) hbs, ← hbytes, List.take_left' (by omega)]
      · rw [← List.drop_succ_cons (a := op), ← hbytes, List.drop_left' (by omega)]

theorem decode_encode (i : Instr) (hwf : i.wf = true) : decode (encode i) = .ok (i, []) :=
  decode_eq_ok_iff.mpr ⟨hwf, List.append_nil _⟩

/-- Settles O1: what decodes is exactly what is an encoding, read from right to left. -/
theorem decodeOfEncodeGivesBackInstruction : Obligations.DecodeOfEncodeGivesBackInstruction :=
  fun _ _ hwf => decode_eq_ok_iff.mpr ⟨hwf, rfl⟩

/-- Settles O2: what decodes is exactly what is an encoding, read from left to right. -/
theorem encodeOfDecodeGivesBackBytes : Obligations.EncodeOfDecodeGivesBackBytes :=
  fun _ _ _ => decode_eq_ok_iff.mp

/-- Settles O4: the operand bytes do not reach the length. -/
theorem firstByteAloneFixesLength : Obligations.FirstByteAloneFixesLength :=
  fun _ _ _ i h => ⟨length_eq_opcodeLength h, length_encode i, length_bounds i⟩

/-- Settles O5: each sample is the encoding of the instruction it spells. -/
theorem sampleBytesDecodeAsSpelled : Obligations.SampleBytesDecodeAsSpelled :=
  ⟨decode_encode (.lxi .hl 0x2050#16) rfl, decode_encode (.mov (.reg .a) .m) rfl, decode_encode .hlt rfl,
    decode_encode (.ldax .de) rfl, decode_encode (.adi 0x42#8) rfl, decode_encode (.jnz 0x2050#16) rfl,
    decode_encode (.rst 5#3) rfl, decode_encode (.push .psw) rfl, decode_encode (.dad .sp) rfl,
    decode_encode (.out 0x01#8) rfl, decode_encode .sim rfl⟩

end Sys2Proof
end

/-! SUPPORT. The step around `exec` (`30_encoding.md` R94): where the boundary lets an instruction run, the fetched bytes
decide which, and the fetch from memory cells changes nothing. -/
section
namespace Sys2Proof.Machine

/-! ### The step by what the fetched bytes spell -/

theorem step_of_executes {s : State} (h : s.Executes) : step s = s.sample.runInstruction := by
  obtain ⟨hreset, hnone, hrunning⟩ := h
  simp [step, hreset, hnone, hrunning]

theorem State.runInstruction_of_some {s : State} {i : Instr}
    (h : decodeBytes s.fetch.1.1 s.fetch.1.2.1 s.fetch.1.2.2 = some i) :
    s.runInstruction = exec i { s.fetch.2 with eiShadow := false } := by
  simp only [State.runInstruction, h]

theorem State.runInstruction_of_none {s : State}
    (h : decodeBytes s.fetch.1.1 s.fetch.1.2.1 s.fetch.1.2.2 = none) :
    s.runInstruction = .refused (.undefinedOpcode s.fetch.1.1) := by
  simp only [State.runInstruction, h]

/-- Settles O6: the boundary goes on to the fetch, and the bytes spell `i`. -/
theorem stepRunsTheFetchedInstruction : Obligations.StepRunsTheFetchedInstruction := fun _ _ hexec hi => by
  rw [step_of_executes hexec, State.runInstruction_of_some hi]

/-- Settles O3: the opcode map with its ten gaps, and the refusal of the step that fetches one. -/
theorem tenOpcodesAreUndefinedAndRefused : Obligations.TenOpcodesAreUndefinedAndRefused := by
  refine ⟨fun _ _ _ => decodeBytes_eq_none_iff, fun s hexec hop => ?_, fun _ => rfl, fun r _ => by cases r <;> rfl⟩
  rw [step_of_executes hexec, State.runInstruction_of_none (decodeBytes_eq_none_iff.mpr hop)]

/-! ### The fetch from memory cells -/

theorem State.memRead_of_holds {s : State} {addr : Word} {v : Byte} (h : s.Holds addr v) :
    s.memRead addr = (v, s) :=
  memRead_of_cell h.1 h.2

theorem State.holdsBytes_sample {s : State} {addr : Word} {bytes : List Byte} (h : s.HoldsBytes addr bytes) :
    s.sample.HoldsBytes addr bytes := by
  induction bytes generalizing addr with
  | nil => trivial
  | cons v vs ih =>
    obtain ⟨hv, hvs⟩ := h
    exact ⟨hv, ih hvs⟩

theorem State.fetch_of_one_byte {s : State} {op : Byte} (hlen : opcodeLength op = 1)
    (h : s.HoldsBytes s.pc [op]) : s.fetch = ((op, 0#8, 0#8), s) := by
  obtain ⟨hop, -⟩ := h
  simp [State.fetch, memRead_of_holds hop, hlen]

theorem State.fetch_of_two_bytes {s : State} {op b2 : Byte} (hlen : opcodeLength op = 2)
    (h : s.HoldsBytes s.pc [op, b2]) : s.fetch = ((op, b2, 0#8), s) := by
  obtain ⟨hop, hb2, -⟩ := h
  simp [State.fetch, memRead_of_holds hop, memRead_of_holds hb2, hlen]

theorem State.fetch_of_three_bytes {s : State} {op b2 b3 : Byte} (hlen : opcodeLength op = 3)
    (h : s.HoldsBytes s.pc [op, b2, b3]) : s.fetch = ((op, b2, b3), s) := by
  obtain ⟨hop, hb2, hb3, -⟩ := h
  have hb3 : s.Holds (s.pc + 2#16) b3 := by simpa [BitVec.add_assoc] using hb3
  simp [State.fetch, memRead_of_holds hop, memRead_of_holds hb2, memRead_of_holds hb3, hlen]

/-- The fetch takes as many of the bytes at `pc` as the first one asks for, whatever else stands for those it does not. -/
theorem State.fetch_of_holdsBytes {s : State} {op b2 b3 : Byte} (hmin : 1 ≤ opcodeLength op)
    (hmax : opcodeLength op ≤ 3) (h : s.HoldsBytes s.pc ([op, b2, b3].take (opcodeLength op))) :
    ∃ x y, s.fetch = ((op, x, y), s) ∧
      [op, x, y].take (opcodeLength op) = [op, b2, b3].take (opcodeLength op) := by
  obtain hlen | hlen | hlen : opcodeLength op = 1 ∨ opcodeLength op = 2 ∨ opcodeLength op = 3 := by omega
  · rw [hlen] at h ⊢
    exact ⟨_, _, fetch_of_one_byte hlen h, rfl⟩
  · rw [hlen] at h ⊢
    exact ⟨_, _, fetch_of_two_bytes hlen h, rfl⟩
  · rw [hlen] at h ⊢
    exact ⟨_, _, fetch_of_three_bytes hlen h, rfl⟩

/-- Where memory cells hold an instruction at `pc`, the fetch reads bytes that spell it, and changes nothing. -/
theorem State.fetch_of_holds_encode {s : State} {i : Instr} (hwf : i.wf = true) (h : s.HoldsBytes s.pc (encode i)) :
    ∃ op x y, s.fetch = ((op, x, y), s) ∧ decodeBytes op x y = some i := by
  obtain ⟨b2, b3, henc⟩ := exists_operand_bytes i
  obtain ⟨hmin, hmax⟩ := length_bounds i
  have hlen := length_eq_opcodeLength (decodeBytes_eq_some_iff.mpr ⟨hwf, henc⟩)
  rw [henc, hlen] at h
  rw [hlen] at hmin hmax henc
  obtain ⟨x, y, hfetch, htake⟩ := fetch_of_holdsBytes hmin hmax h
  exact ⟨i.opcode, x, y, hfetch, decodeBytes_eq_some_iff.mpr ⟨hwf, by rw [henc, hlen, htake]⟩⟩

/-- Settles O7: the fetch from the cells at `pc` gives the bytes of `i`, and sampling the boundary leaves the cells. -/
theorem instructionHeldInMemoryRuns : Obligations.InstructionHeldInMemoryRuns := by
  intro s i hexec hwf hbytes
  obtain ⟨op, b2, b3, hfetch, hi⟩ := State.fetch_of_holds_encode hwf (State.holdsBytes_sample hbytes)
  have hrun : s.sample.runInstruction = exec i { s.sample.fetch.2 with eiShadow := false } :=
    State.runInstruction_of_some (by rw [hfetch, hi])
  rw [step_of_executes hexec, hrun, hfetch]

end Sys2Proof.Machine
end

/-! SUPPORT. The data transfer instructions (`40_data_transfer.md` R110 to R119): each as one update of the state before
it, and what a store to `ram` leaves for a later read or fetch (`20_memory.md` R65). -/
section
namespace Sys2Proof.Machine

/-! ### Each instruction as one update: `pc` after its accesses is `pc` before them -/

theorem exec_mov (dst src : Operand8) (s : State) :
    exec (.mov dst src) s = .next { (s.rd8 src).2.wr8 dst (s.rd8 src).1 with pc := s.pc + 1#16 } := by
  rw [← State.rd8_pc src s, ← State.wr8_pc dst (s.rd8 src).1 (s.rd8 src).2]
  rfl

theorem exec_mvi (dst : Operand8) (d8 : Byte) (s : State) :
    exec (.mvi dst d8) s = .next { s.wr8 dst d8 with pc := s.pc + 2#16 } := by
  rw [← State.wr8_pc dst d8 s]
  rfl

theorem exec_lda (a16 : Word) (s : State) : exec (.lda a16) s = .next
    { (s.memRead a16).2 with a := (s.memRead a16).1, pc := s.pc + 3#16 } := by
  rw [← State.memRead_pc a16 s]
  rfl

theorem exec_ldax (rp : PointerPair) (s : State) : exec (.ldax rp) s = .next
    { (s.memRead (s.pointer rp)).2 with a := (s.memRead (s.pointer rp)).1, pc := s.pc + 1#16 } := by
  rw [← State.memRead_pc (s.pointer rp) s]
  rfl

theorem exec_sta (a16 : Word) (s : State) :
    exec (.sta a16) s = .next { s.memWrite a16 s.a with pc := s.pc + 3#16 } := by
  rw [← State.memWrite_pc a16 s.a s]
  rfl

theorem exec_stax (rp : PointerPair) (s : State) :
    exec (.stax rp) s = .next { s.memWrite (s.pointer rp) s.a with pc := s.pc + 1#16 } := by
  rw [← State.memWrite_pc (s.pointer rp) s.a s]
  rfl

theorem exec_lhld (a16 : Word) (s : State) : exec (.lhld a16) s = .next
    { ((s.memRead a16).2.memRead (a16 + 1#16)).2 with
      l := (s.memRead a16).1, h := ((s.memRead a16).2.memRead (a16 + 1#16)).1, pc := s.pc + 3#16 } := by
  rw [← State.memRead_pc a16 s, ← State.memRead_pc (a16 + 1#16) (s.memRead a16).2]
  rfl

theorem exec_shld (a16 : Word) (s : State) : exec (.shld a16) s = .next
    { (s.memWrite a16 s.l).memWrite (a16 + 1#16) s.h with pc := s.pc + 3#16 } := by
  rw [← State.memWrite_pc a16 s.l s, ← State.memWrite_pc (a16 + 1#16) s.h (s.memWrite a16 s.l)]
  rfl

theorem exec_xchg (s : State) :
    exec .xchg s = .next { s with h := s.d, d := s.h, l := s.e, e := s.l, pc := s.pc + 1#16 } := rfl

theorem State.getReg_with_pc (r : Reg) (p : Word) (s : State) : { s with pc := p }.getReg r = s.getReg r := by
  cases r <;> rfl

/-! ### What a cell holds after a store -/

theorem State.holds_memWrite_same {s : State} {addr : Word} (hr : regionOf s.params addr = .ram) (v : Byte) :
    (s.memWrite addr v).Holds addr v :=
  ⟨.inl (by rwa [State.memWrite_params]), by rw [State.memWrite_of_ram hr, Memory.get?_set_same]⟩

theorem State.holds_memWrite_ne {s : State} {addr x : Word} {v : Byte} (h : s.Holds x v) (hne : x ≠ addr) (w : Byte) :
    (s.memWrite addr w).Holds x v := by
  obtain ⟨hr, hv⟩ := h
  exact ⟨by rwa [State.memWrite_params], by rwa [State.memWrite_get?_ne hne]⟩

/-- However long the instruction at `pc`, its first byte is the one the cell there holds. -/
theorem State.fetch_first_of_holds {s : State} {v : Byte} (h : s.Holds s.pc v) : s.fetch.1.1 = v := by
  simp only [State.fetch, State.memRead_of_holds h]
  split
  · rfl
  · split <;> rfl

/-- LHLD from two cells that hold L and H already changes nothing but `pc`. -/
theorem exec_lhld_of_holds_self {s : State} {a16 : Word} (hl : s.Holds a16 s.l) (hh : s.Holds (a16 + 1#16) s.h) :
    exec (.lhld a16) s = .next { s with pc := s.pc + 3#16 } := by
  simp only [exec_lhld, State.memRead_of_holds hl, State.memRead_of_holds hh]

/-! ### The obligations -/

/-- Settles O30: the six updates; the cell STA stored to holds A, and a read and a fetch take what a cell holds. -/
theorem accumulatorLoadsAndStores : Obligations.AccumulatorLoadsAndStores := by
  intro a16 s
  refine ⟨rfl, rfl, rfl, rfl, rfl, rfl, exec_lda a16 s, exec_ldax .bc s, exec_ldax .de s, exec_sta a16 s,
    exec_stax .bc s, exec_stax .de s, fun hram => ⟨_, exec_sta a16 s, ?read, ?fetch⟩⟩
  case read => exact State.memRead_of_holds (State.holds_memWrite_same hram s.a)
  case fetch => exact State.fetch_first_of_holds (State.holds_memWrite_same hram s.a)

/-- Settles O31: the store to `a16 + 1` leaves the one to `a16`, so LHLD finds in the two cells the L and H that SHLD
kept. -/
theorem hlLoadsAndStoresDirect : Obligations.HlLoadsAndStoresDirect := by
  refine ⟨fun a16 s => ⟨rfl, rfl, exec_lhld a16 s, exec_shld a16 s⟩, fun a16 s hlow hhigh => ?_⟩
  have hne : a16 ≠ a16 + 1#16 := by bv_omega
  have hl : ((s.memWrite a16 s.l).memWrite (a16 + 1#16) s.h).Holds a16 s.l :=
    State.holds_memWrite_ne (State.holds_memWrite_same hlow s.l) hne s.h
  have hh : ((s.memWrite a16 s.l).memWrite (a16 + 1#16) s.h).Holds (a16 + 1#16) s.h :=
    State.holds_memWrite_same (by rwa [State.memWrite_params]) s.h
  refine ⟨_, exec_shld a16 s, exec_lhld_of_holds_self ?_ ?_⟩
  · simpa [State.Holds] using hl
  · simpa [State.Holds] using hh

/-- Settles O28: the two updates; between registers the read has no effect and the destination reads as it was
written. -/
theorem movAndMviCopy : Obligations.MovAndMviCopy := by
  refine ⟨fun dst src s _ => ⟨rfl, exec_mov dst src s⟩,
    fun q r s => ⟨_, exec_mov (.reg q) (.reg r) s, rfl, ?_⟩, fun dst v s => ⟨rfl, exec_mvi dst v s⟩⟩
  exact (State.getReg_with_pc q _ _).trans (State.getReg_setReg_same q _ s)

/-- Settles O29, pair by pair: a pair write is an update of the two fields it names. -/
theorem lxiLoadsPair : Obligations.LxiLoadsPair := fun _ _ => ⟨fun _ => rfl, rfl, rfl, rfl, rfl⟩

/-- Settles O32: the second exchange undoes the first, and `pc` goes on by 1 twice. -/
theorem xchgExchangesHlAndDe : Obligations.XchgExchangesHlAndDe := by
  intro s
  have hpc : s.pc + 1#16 + 1#16 = s.pc + 2#16 := by bv_omega
  refine ⟨rfl, exec_xchg s, _, exec_xchg s, ?_⟩
  rw [exec_xchg, hpc]

end Sys2Proof.Machine
end

/-! SUPPORT. The arithmetic instructions (`41_arithmetic.md` R130 to R145): each as one update of the state before it,
and DAA's two adjustments in sequence as one step (R144). -/
section
namespace Sys2Proof.Machine

/-! ### Each instruction as one update: the read of an operand keeps A, `pc` and the parameters -/

theorem State.advance_of_pc_eq {s t : State} (h : t.pc = s.pc) (len : Word) :
    t.advance len = { t with pc := s.pc + len } := by
  rw [← h]
  rfl

/-- ADD and ADC, by the carry they take in. -/
theorem State.accAdd_rd8_advance (src : Operand8) (cin : Bool) (s : State) :
    ((s.rd8 src).2.accAdd (s.rd8 src).1 cin).advance 1#16 = { (s.rd8 src).2 with
      a := (add8 s.a (s.rd8 src).1 cin).1, flags := (add8 s.a (s.rd8 src).1 cin).2, pc := s.pc + 1#16 } := by
  rw [← State.rd8_a src s, ← State.rd8_pc src s]
  rfl

/-- SUB and SBB, by the borrow they take in. -/
theorem State.accSub_rd8_advance (src : Operand8) (bin : Bool) (s : State) :
    ((s.rd8 src).2.accSub (s.rd8 src).1 bin).advance 1#16 = { (s.rd8 src).2 with
      a := (sub8 s.params.acSub s.a (s.rd8 src).1 bin).1
      flags := (sub8 s.params.acSub s.a (s.rd8 src).1 bin).2
      pc := s.pc + 1#16 } := by
  rw [← State.rd8_a src s, ← State.rd8_pc src s, ← State.rd8_params src s]
  rfl

/-- INR and DCR, by the flags and the byte they write back. -/
theorem State.wr8_rd8_advance (dst : Operand8) (f : Flags) (r : Byte) (s : State) :
    ({ (s.rd8 dst).2 with flags := f }.wr8 dst r).advance 1#16 =
      { { (s.rd8 dst).2 with flags := f }.wr8 dst r with pc := s.pc + 1#16 } :=
  State.advance_of_pc_eq ((State.wr8_pc dst r { (s.rd8 dst).2 with flags := f }).trans (State.rd8_pc dst s)) 1#16

theorem exec_add (src : Operand8) (s : State) : exec (.add src) s = .next { (s.rd8 src).2 with
    a := (add8 s.a (s.rd8 src).1 false).1, flags := (add8 s.a (s.rd8 src).1 false).2, pc := s.pc + 1#16 } :=
  congrArg Host.Outcome.next (State.accAdd_rd8_advance src false s)

theorem exec_adc (src : Operand8) (s : State) : exec (.adc src) s = .next { (s.rd8 src).2 with
    a := (add8 s.a (s.rd8 src).1 s.flags.cy).1
    flags := (add8 s.a (s.rd8 src).1 s.flags.cy).2
    pc := s.pc + 1#16 } :=
  congrArg Host.Outcome.next (State.accAdd_rd8_advance src s.flags.cy s)

theorem exec_sub (src : Operand8) (s : State) : exec (.sub src) s = .next { (s.rd8 src).2 with
    a := (sub8 s.params.acSub s.a (s.rd8 src).1 false).1
    flags := (sub8 s.params.acSub s.a (s.rd8 src).1 false).2
    pc := s.pc + 1#16 } :=
  congrArg Host.Outcome.next (State.accSub_rd8_advance src false s)

theorem exec_sbb (src : Operand8) (s : State) : exec (.sbb src) s = .next { (s.rd8 src).2 with
    a := (sub8 s.params.acSub s.a (s.rd8 src).1 s.flags.cy).1
    flags := (sub8 s.params.acSub s.a (s.rd8 src).1 s.flags.cy).2
    pc := s.pc + 1#16 } :=
  congrArg Host.Outcome.next (State.accSub_rd8_advance src s.flags.cy s)

theorem exec_inr (dst : Operand8) (s : State) : exec (.inr dst) s = .next
    { ({ (s.rd8 dst).2 with flags := { (add8 (s.rd8 dst).1 1#8 false).2 with cy := s.flags.cy } } : State).wr8 dst
        (add8 (s.rd8 dst).1 1#8 false).1 with pc := s.pc + 1#16 } :=
  congrArg Host.Outcome.next (State.wr8_rd8_advance dst _ _ s)

theorem exec_dcr (dst : Operand8) (s : State) : exec (.dcr dst) s = .next
    { ({ (s.rd8 dst).2 with
        flags := { (sub8 s.params.acSub (s.rd8 dst).1 1#8 false).2 with cy := s.flags.cy } } : State).wr8 dst
        (sub8 s.params.acSub (s.rd8 dst).1 1#8 false).1 with pc := s.pc + 1#16 } :=
  congrArg Host.Outcome.next (State.wr8_rd8_advance dst _ _ s)

theorem exec_inx (rp : Pair) (s : State) :
    exec (.inx rp) s = .next { s.setPair rp (s.getPair rp + 1#16) with pc := s.pc + 1#16 } :=
  congrArg Host.Outcome.next (State.advance_of_pc_eq (State.setPair_pc rp _ s) 1#16)

theorem exec_dcx (rp : Pair) (s : State) :
    exec (.dcx rp) s = .next { s.setPair rp (s.getPair rp - 1#16) with pc := s.pc + 1#16 } :=
  congrArg Host.Outcome.next (State.advance_of_pc_eq (State.setPair_pc rp _ s) 1#16)

theorem exec_dad (rp : Pair) (s : State) : exec (.dad rp) s = .next { s with
    h := hiByte (BitVec.ofNat 16 (s.hl.toNat + (s.getPair rp).toNat))
    l := loByte (BitVec.ofNat 16 (s.hl.toNat + (s.getPair rp).toNat))
    flags := { s.flags with cy := decide (65535 < s.hl.toNat + (s.getPair rp).toNat) }
    pc := s.pc + 1#16 } := rfl

theorem exec_daa (s : State) : exec .daa s = .next
    { s with a := (decimalAdjust s.a s.flags).1, flags := (decimalAdjust s.a s.flags).2, pc := s.pc + 1#16 } := rfl

/-! ### DAA: the two steps of R144 in sequence -/

/-- The low digit is adjusted: it exceeds 9, or AC is set. -/
def adjustsLow (a : Byte) (f : Flags) : Bool := decide (lowNibble a > 9) || f.ac

theorem adjustsLow_iff (a : Byte) (f : Flags) : adjustsLow a f = true ↔ (9 < a.toNat % 16 ∨ f.ac = true) := by
  simp [adjustsLow, lowNibble]

/-- The sum of the first step, before it is cut to 8 bits. -/
def lowAdjusted (a : Byte) (f : Flags) : Nat := a.toNat + if adjustsLow a f then 6 else 0

/-- CY after the first step. -/
def carryAfterLow (a : Byte) (f : Flags) : Bool := f.cy || decide (lowAdjusted a f > 255)

/-- The high digit is adjusted, as the sequence tests it: on the sum of the first step. -/
def adjustsHigh (a : Byte) (f : Flags) : Bool := decide (lowAdjusted a f % 256 / 16 > 9) || carryAfterLow a f

/-- The sum of the second step, before it is cut to 8 bits. -/
def highAdjusted (a : Byte) (f : Flags) : Nat := lowAdjusted a f % 256 + if adjustsHigh a f then 0x60 else 0

theorem decimalAdjust_eq (a : Byte) (f : Flags) : decimalAdjust a f =
    (BitVec.ofNat 8 (highAdjusted a f), flagsOf (BitVec.ofNat 8 (highAdjusted a f))
      (adjustsLow a f && decide (lowNibble a + 6 > 15))
      (carryAfterLow a f || decide (highAdjusted a f > 255))) := rfl

/-! ### DAA: the same in one step -/

theorem lowAdjusted_eq (a : Byte) (f : Flags) : lowAdjusted a f = a.toNat + 0x06 * (adjustsLow a f).toNat := by
  cases h : adjustsLow a f <;> simp [lowAdjusted, h]

theorem highAdjusted_eq (a : Byte) (f : Flags) :
    highAdjusted a f = lowAdjusted a f % 256 + 0x60 * (adjustsHigh a f).toNat := by
  cases h : adjustsHigh a f <;> simp [highAdjusted, h]

/-- The first step brings A to A0H or more exactly when A exceeds 99H: from 9AH to 9FH the low digit is above 9, so the
step adds 6. -/
theorem lowAdjusted_ge_iff (a : Byte) (f : Flags) : 0xA0 ≤ lowAdjusted a f ↔ 0x99 < a.toNat := by
  have hle := Bool.toNat_le (adjustsLow a f)
  have hadds : 9 < a.toNat % 16 → (adjustsLow a f).toNat = 1 :=
    fun h => congrArg Bool.toNat ((adjustsLow_iff a f).2 (.inl h))
  rw [lowAdjusted_eq]
  omega

/-- The test on the sum of the first step, its carry included, asks whether A exceeds 99H or CY is set. -/
theorem adjustsHigh_iff (a : Byte) (f : Flags) : adjustsHigh a f = true ↔ (0x99 < a.toNat ∨ f.cy = true) := by
  have hsum : (lowAdjusted a f % 256 / 16 > 9 ∨ lowAdjusted a f > 255) ↔ 0xA0 ≤ lowAdjusted a f := by omega
  simp only [adjustsHigh, carryAfterLow, Bool.or_eq_true, decide_eq_true_eq, ← lowAdjusted_ge_iff a f, ← hsum]
  tauto

/-- The carries of the two steps together are set exactly where the second step adjusts: a high digit above 9 carries
when 60H is added. -/
theorem carry_of_decimalAdjust (a : Byte) (f : Flags) :
    (carryAfterLow a f || decide (highAdjusted a f > 255)) = adjustsHigh a f := by
  cases hc : carryAfterLow a f with
  | true => simp [adjustsHigh, hc]
  | false =>
    have hdigit : adjustsHigh a f = true ↔ lowAdjusted a f % 256 / 16 > 9 := by simp [adjustsHigh, hc]
    have hsum : highAdjusted a f > 255 ↔ lowAdjusted a f % 256 / 16 > 9 := by
      rw [highAdjusted]
      split
      · next hadds => have := hdigit.1 hadds; omega
      · next hkeeps => have := mt hdigit.2 hkeeps; omega
    rw [Bool.false_or, Bool.eq_iff_iff, decide_eq_true_iff, hsum, hdigit]

/-- Cutting the first sum to 8 bits does not show in the second one cut to 8 bits. -/
theorem toNat_decimalAdjust (a : Byte) (f : Flags) : (decimalAdjust a f).1.toNat =
    (a.toNat + 0x06 * (adjustsLow a f).toNat + 0x60 * (adjustsHigh a f).toNat) % 256 := by
  rw [decimalAdjust_eq, BitVec.toNat_ofNat, highAdjusted_eq, Nat.mod_add_mod, lowAdjusted_eq]

theorem flags_decimalAdjust (a : Byte) (f : Flags) : (decimalAdjust a f).2 = flagsOf (decimalAdjust a f).1
    (adjustsLow a f && decide (lowNibble a + 6 > 15)) (adjustsHigh a f) := by
  rw [← carry_of_decimalAdjust a f]
  rfl

/-! ### The obligations -/

/-- Settles O33: A and the flags become those of `add8`, which are the sum's. -/
theorem additionsWriteSumAndFlags : Obligations.AdditionsWriteSumAndFlags :=
  ⟨fun src s => ⟨_, _, rfl, add8_isSum s.a (s.rd8 src).1 false, exec_add src s⟩,
    fun src s => ⟨_, _, rfl, add8_isSum s.a (s.rd8 src).1 s.flags.cy, exec_adc src s⟩,
    fun d8 s => ⟨_, _, rfl, add8_isSum s.a d8 false, rfl⟩,
    fun d8 s => ⟨_, _, rfl, add8_isSum s.a d8 s.flags.cy, rfl⟩⟩

/-- Settles O34: A and the flags become those of `sub8`, which are the difference's under each `AC_SUB`. -/
theorem subtractionsWriteDifferenceAndFlags : Obligations.SubtractionsWriteDifferenceAndFlags :=
  ⟨fun src s => ⟨_, _, rfl, sub8_isDifference _ s.a (s.rd8 src).1 false, exec_sub src s⟩,
    fun src s => ⟨_, _, rfl, sub8_isDifference _ s.a (s.rd8 src).1 s.flags.cy, exec_sbb src s⟩,
    fun d8 s => ⟨_, _, rfl, sub8_isDifference _ s.a d8 false, rfl⟩,
    fun d8 s => ⟨_, _, rfl, sub8_isDifference _ s.a d8 s.flags.cy, rfl⟩⟩

/-- Settles O36: the byte written back and S, Z, AC and P are those of `add8` and `sub8` with 1. -/
theorem incrementAndDecrementKeepCarry : Obligations.IncrementAndDecrementKeepCarry :=
  ⟨fun dst s => ⟨_, _, rfl, add8_isSum (s.rd8 dst).1 1#8 false, exec_inr dst s⟩,
    fun dst s => ⟨_, _, rfl, sub8_isDifference s.params.acSub (s.rd8 dst).1 1#8 false, exec_dcr dst s⟩⟩

/-- Settles O39: the two steps in sequence adjust the digits the one-step statement adjusts, and carry out of bit 7
exactly where the high digit is adjusted. -/
theorem daaEqualsOneStepAdjustment : Obligations.DaaEqualsOneStepAdjustment := by
  intro s
  refine ⟨rfl, adjustsLow s.a s.flags, adjustsHigh s.a s.flags, _, _, adjustsLow_iff _ _, adjustsHigh_iff _ _,
    toNat_decimalAdjust s.a s.flags, ?carry, ?auxiliaryCarry, ?reflects, exec_daa s⟩
  all_goals rw [flags_decimalAdjust]
  case carry => rfl
  case auxiliaryCarry => simp [flagsOf, lowNibble]
  case reflects => exact flagsOf_reflects _ _ _

/-- Settles O37: adding and subtracting 1 on 16 bits, over numbers. -/
theorem pairIncrementAndDecrement : Obligations.PairIncrementAndDecrement := by
  intro rp s
  refine ⟨rfl, rfl, ⟨s.getPair rp + 1#16, ?plusOne, exec_inx rp s⟩, ⟨s.getPair rp - 1#16, ?minusOne, exec_dcx rp s⟩⟩
  case plusOne => bv_omega
  case minusOne => bv_omega

/-- Settles O38: the 17-bit sum as a number, its low 16 bits in HL and its bit 16 in CY. -/
theorem dadAddsPairToHl : Obligations.DadAddsPairToHl := fun rp s =>
  ⟨rfl, _, _, BitVec.toNat_ofNat _ 16, decide_eq_true_iff, exec_dad rp s⟩

end Sys2Proof.Machine
end

/-! SUPPORT. The logical instructions (`42_logical.md` R160 to R175): each as one update of the state before it, the
order a comparison shows in CY and Z, and the bits of a rotated byte. -/
section
namespace Sys2Proof.Machine

/-! ### Each instruction as one update: the read of an operand keeps A, `pc` and the parameters -/

/-- ANA, ORA and XRA, by the byte and the AC they write. -/
theorem State.accLogic_rd8_advance (src : Operand8) (r : Byte) (ac : Bool) (s : State) :
    ((s.rd8 src).2.accLogic r ac).advance 1#16 =
      { (s.rd8 src).2 with a := r, flags := flagsOf r ac false, pc := s.pc + 1#16 } :=
  State.advance_of_pc_eq (t := (s.rd8 src).2.accLogic r ac) (State.rd8_pc src s) 1#16

theorem exec_ana (src : Operand8) (s : State) : exec (.ana src) s = .next { (s.rd8 src).2 with
    a := s.a &&& (s.rd8 src).1, flags := flagsOf (s.a &&& (s.rd8 src).1) true false, pc := s.pc + 1#16 } :=
  congrArg Host.Outcome.next (State.accLogic_rd8_advance src _ true s)

theorem exec_ora (src : Operand8) (s : State) : exec (.ora src) s = .next { (s.rd8 src).2 with
    a := s.a ||| (s.rd8 src).1, flags := flagsOf (s.a ||| (s.rd8 src).1) false false, pc := s.pc + 1#16 } :=
  congrArg Host.Outcome.next (State.accLogic_rd8_advance src _ false s)

theorem exec_xra (src : Operand8) (s : State) : exec (.xra src) s = .next { (s.rd8 src).2 with
    a := s.a ^^^ (s.rd8 src).1, flags := flagsOf (s.a ^^^ (s.rd8 src).1) false false, pc := s.pc + 1#16 } :=
  congrArg Host.Outcome.next (State.accLogic_rd8_advance src _ false s)

theorem exec_cmp (src : Operand8) (s : State) : exec (.cmp src) s = .next { (s.rd8 src).2 with
    flags := (sub8 s.params.acSub s.a (s.rd8 src).1 false).2, pc := s.pc + 1#16 } := by
  rw [← State.rd8_a src s, ← State.rd8_pc src s, ← State.rd8_params src s]
  rfl

/-! ### The order a subtraction without borrow shows -/

theorem IsDifference.cy_iff_lt {rule : AcSubRule} {a b r : Byte} {f : Flags} (h : IsDifference rule a b false r f) :
    f.cy = true ↔ a.toNat < b.toNat := by
  obtain ⟨-, hcy, -⟩ := h
  simpa using hcy

/-- The difference modulo 256 is 0 for equal bytes only. -/
theorem IsDifference.z_iff_eq {rule : AcSubRule} {a b r : Byte} {f : Flags} (h : IsDifference rule a b false r f) :
    f.z = true ↔ a = b := by
  obtain ⟨hr, -, -, -, -, hz, -⟩ := h
  rw [hz, ← BitVec.toNat_inj, ← BitVec.toNat_inj]
  simp only [Bool.toNat_false, BitVec.toNat_ofNat] at hr ⊢
  omega

/-- The three cases of R168. -/
theorem IsDifference.shows_order {rule : AcSubRule} {a b r : Byte} {f : Flags} (h : IsDifference rule a b false r f) :
    (a.toNat < b.toNat → f.cy = true ∧ f.z = false) ∧ (a = b → f.cy = false ∧ f.z = true) ∧
      (b.toNat < a.toNat → f.cy = false ∧ f.z = false) := by
  simp only [← Bool.not_eq_true, h.cy_iff_lt, h.z_iff_eq, ← BitVec.toNat_inj]
  omega

/-! ### The bits of a rotated byte -/

/-- RLC and RAL: bits 6 to 0 one up, and the bit that comes in below them. -/
def shiftInLow (a : Byte) (b : BitVec 1) : Byte := a.extractLsb' 0 7 ++ b

/-- RRC and RAR: bits 7 to 1 one down, and the bit that comes in above them. -/
def shiftInHigh (a : Byte) (b : BitVec 1) : Byte := b ++ a.extractLsb' 1 7

theorem getLsbD_succ_shiftInLow (a : Byte) (b : BitVec 1) {k : Nat} (hk : k < 7) :
    (shiftInLow a b).getLsbD (k + 1) = a.getLsbD k :=
  BitVec.getLsbD_append.trans (by simp [hk])

theorem getLsbD_zero_shiftInLow (a : Byte) (b : BitVec 1) : (shiftInLow a b).getLsbD 0 = b.getLsbD 0 :=
  BitVec.getLsbD_append.trans (by simp)

theorem getLsbD_shiftInHigh (a : Byte) (b : BitVec 1) {k : Nat} (hk : k < 7) :
    (shiftInHigh a b).getLsbD k = a.getLsbD (k + 1) :=
  BitVec.getLsbD_append.trans (by simp [hk, Nat.add_comm])

theorem getLsbD_seven_shiftInHigh (a : Byte) (b : BitVec 1) : (shiftInHigh a b).getLsbD 7 = b.getLsbD 0 :=
  BitVec.getLsbD_append.trans (by simp)

/-- RLC's byte: the bit that comes in is bit 7. -/
theorem getLsbD_shiftInLow_bit7 (a : Byte) {k : Nat} (hk : k < 8) :
    (shiftInLow a (a.extractLsb' 7 1)).getLsbD k = a.getLsbD ((k + 7) % 8) := by
  cases k with
  | zero => rw [getLsbD_zero_shiftInLow]; simp
  | succ k => rw [getLsbD_succ_shiftInLow a _ (by omega), show (k + 1 + 7) % 8 = k by omega]

/-- RRC's byte: the bit that comes in is bit 0. -/
theorem getLsbD_shiftInHigh_bit0 (a : Byte) {k : Nat} (hk : k < 8) :
    (shiftInHigh a (a.extractLsb' 0 1)).getLsbD k = a.getLsbD ((k + 1) % 8) := by
  obtain hk | rfl : k < 7 ∨ k = 7 := by omega
  · rw [getLsbD_shiftInHigh a _ hk, Nat.mod_eq_of_lt (by omega)]
  · rw [getLsbD_seven_shiftInHigh]; simp

/-! ### Each rotate as one update -/

theorem exec_rlc (s : State) : exec .rlc s = .next { s with
    a := shiftInLow s.a (s.a.extractLsb' 7 1)
    flags := { s.flags with cy := s.a.getLsbD 7 }
    pc := s.pc + 1#16 } := rfl

theorem exec_ral (s : State) : exec .ral s = .next { s with
    a := shiftInLow s.a (BitVec.ofBool s.flags.cy)
    flags := { s.flags with cy := s.a.getLsbD 7 }
    pc := s.pc + 1#16 } := rfl

theorem exec_rrc (s : State) : exec .rrc s = .next { s with
    a := shiftInHigh s.a (s.a.extractLsb' 0 1)
    flags := { s.flags with cy := s.a.getLsbD 0 }
    pc := s.pc + 1#16 } := rfl

theorem exec_rar (s : State) : exec .rar s = .next { s with
    a := shiftInHigh s.a (BitVec.ofBool s.flags.cy)
    flags := { s.flags with cy := s.a.getLsbD 0 }
    pc := s.pc + 1#16 } := rfl

/-! ### The obligations -/

/-- Settles O42: the bits of A one position on, and the bit that comes in, which is CY or the bit that went out. -/
theorem rotatesMoveEachBit : Obligations.RotatesMoveEachBit := by
  intro s
  refine ⟨rfl, rfl, rfl, rfl, ⟨_, fun _ => getLsbD_shiftInLow_bit7 s.a, exec_rlc s⟩,
    ⟨_, fun _ => getLsbD_succ_shiftInLow s.a _, ?ralBit0, exec_ral s⟩,
    ⟨_, fun _ => getLsbD_shiftInHigh_bit0 s.a, exec_rrc s⟩,
    ⟨_, fun _ => getLsbD_shiftInHigh s.a _, ?rarBit7, exec_rar s⟩⟩
  case ralBit0 => exact (getLsbD_zero_shiftInLow s.a _).trans (BitVec.getLsbD_ofBool s.flags.cy 0)
  case rarBit7 => exact (getLsbD_seven_shiftInHigh s.a _).trans (BitVec.getLsbD_ofBool s.flags.cy 0)

/-- Settles O35: the flags are those of `sub8` without borrow, whose CY and Z show the order. -/
theorem comparisonsSetCarryAndZeroByOrder : Obligations.ComparisonsSetCarryAndZeroByOrder := by
  refine ⟨fun src s => ?cmp, fun d8 s => ?cpi⟩
  case cmp =>
    have h := sub8_isDifference s.params.acSub s.a (s.rd8 src).1 false
    exact ⟨_, _, rfl, h, exec_cmp src s, h.shows_order⟩
  case cpi =>
    have h := sub8_isDifference s.params.acSub s.a d8 false
    exact ⟨_, _, rfl, h, rfl, h.shows_order⟩

/-- Settles O40: A becomes the result and the flags `flagsOf` it, with CY reset. -/
theorem bitwiseInstructionsWriteResultAndFlags : Obligations.BitwiseInstructionsWriteResultAndFlags := fun src _ s =>
  ⟨rfl, rfl, rfl, rfl, rfl, rfl,
    ⟨_, flagsOf_reflects _ true false, rfl, rfl, exec_ana src s⟩,
    ⟨_, flagsOf_reflects _ false false, rfl, rfl, exec_ora src s⟩,
    ⟨_, flagsOf_reflects _ false false, rfl, rfl, exec_xra src s⟩,
    ⟨_, flagsOf_reflects _ true false, rfl, rfl, rfl⟩,
    ⟨_, flagsOf_reflects _ false false, rfl, rfl, rfl⟩,
    ⟨_, flagsOf_reflects _ false false, rfl, rfl, rfl⟩⟩

/-- Settles O41: each is one update of A or of CY, and `pc` one on. -/
theorem complementAndCarryInstructions : Obligations.ComplementAndCarryInstructions := fun _ =>
  ⟨rfl, rfl, rfl, rfl, rfl, rfl⟩

end Sys2Proof.Machine
end

/-! SUPPORT. The branch instructions (`43_branch.md` R190 to R194) with RST (`45_stack_io_machine.md` R234) and the
conditional returns (`44_conditional_branch.md` R219): calls and returns as updates of the state before them, their
pairing over a stack in `ram`, and XTHL as an exchange. -/
section
namespace Sys2Proof.Machine

/-! ### Calls and restarts -/

theorem exec_call (a16 : Word) (s : State) : exec (.call a16) s = .next
    { (s.memWrite (s.sp - 1#16) (hiByte (s.pc + 3#16))).memWrite (s.sp - 2#16) (loByte (s.pc + 3#16)) with
      sp := s.sp - 2#16, pc := a16 } := rfl

theorem exec_rst (n : BitVec 3) (s : State) : exec (.rst n) s = .next
    { (s.memWrite (s.sp - 1#16) (hiByte (s.pc + 1#16))).memWrite (s.sp - 2#16) (loByte (s.pc + 1#16)) with
      sp := s.sp - 2#16, pc := restartTarget n } := rfl

theorem toNat_restartTarget (n : BitVec 3) : (restartTarget n).toNat = 8 * n.toNat := by
  unfold restartTarget
  bv_omega

theorem restartTarget_eq_ofNat (n : BitVec 3) : restartTarget n = BitVec.ofNat 16 (8 * n.toNat) :=
  BitVec.eq_of_toNat_eq (by rw [toNat_restartTarget, BitVec.toNat_ofNat]; omega)

/-! ### Returns -/

theorem State.returnFrom_eq (s : State) : s.returnFrom =
    { ((s.memRead s.sp).2.memRead (s.sp + 1#16)).2 with
      sp := s.sp + 2#16, pc := joinBytes ((s.memRead s.sp).2.memRead (s.sp + 1#16)).1 (s.memRead s.sp).1 } := rfl

/-- A return in the state a call left comes back to the address the call pushed, with SP as before the call. -/
theorem State.returnFrom_callTo {s : State} (h1 : regionOf s.params (s.sp - 1#16) = .ram)
    (h2 : regionOf s.params (s.sp - 2#16) = .ram) (back target : Word) :
    (s.callTo back target).returnFrom = { s.callTo back target with pc := back, sp := s.sp } := by
  have hpop : (s.callTo back target).pop16 = (back, { s.callTo back target with sp := s.sp }) :=
    State.pop16_after_push16 h1 h2 (State.callTo_mem back target s) (State.callTo_sp back target s)
      (State.callTo_params back target s)
  simp only [State.returnFrom, hpop]

/-- A conditional return by the flag value `P` its condition asks for. -/
theorem returnIf_next_eq_ite {cond : Cond} {s : State} {P : Prop} [Decidable P] (h : s.flags.holds cond = true ↔ P) :
    (.next (s.returnIf cond) : Result) = .next (if P then s.returnFrom else { s with pc := s.pc + 1#16 }) := by
  rcases s.returnIf_cases cond with ⟨hc, e⟩ | ⟨hc, e⟩
  · rw [e, if_pos (h.1 hc)]
  · have hP : ¬ P := fun hp => Bool.false_ne_true (hc.symm.trans (h.2 hp))
    rw [e, if_neg hP]
    rfl

/-! ### XTHL -/

theorem exec_xthl (s : State) : exec .xthl s = .next
    { (((s.memRead s.sp).2.memRead (s.sp + 1#16)).2.memWrite (s.sp + 1#16) s.h).memWrite s.sp s.l with
      l := (s.memRead s.sp).1, h := ((s.memRead s.sp).2.memRead (s.sp + 1#16)).1, pc := s.pc + 1#16 } := by
  have hpc : ((((s.memRead s.sp).2.memRead (s.sp + 1#16)).2.memWrite (s.sp + 1#16) s.h).memWrite s.sp s.l).pc = s.pc := by
    simp
  rw [← hpc]
  rfl

/-- Over two `ram` cells that hold values the registers take the bytes, the cells take the registers, and no other cell
changes. -/
theorem exec_xthl_exchanges {s : State} {lo hi : Byte} (hrl : regionOf s.params s.sp = .ram)
    (hrh : regionOf s.params (s.sp + 1#16) = .ram) (hlo : Memory.get? s.mem s.sp.toNat = some lo)
    (hhi : Memory.get? s.mem (s.sp + 1#16).toNat = some hi) :
    ∃ t, exec .xthl s = .next t ∧ t.l = lo ∧ t.h = hi ∧ t.sp = s.sp ∧ t.params = s.params ∧
      Memory.get? t.mem s.sp.toNat = some s.l ∧ Memory.get? t.mem (s.sp + 1#16).toNat = some s.h ∧
      MemoryKeptBut [s.sp, s.sp + 1#16] s t := by
  have hexec := exec_xthl s
  simp only [State.memRead_of_cell (.inl hrl) hlo, State.memRead_of_cell (.inl hrh) hhi] at hexec
  have hne : s.sp + 1#16 ≠ s.sp := by bv_omega
  have hhigh : (s.memWrite (s.sp + 1#16) s.h).Holds (s.sp + 1#16) s.h := State.holds_memWrite_same hrh s.h
  have hlow : ((s.memWrite (s.sp + 1#16) s.h).memWrite s.sp s.l).Holds s.sp s.l :=
    State.holds_memWrite_same (by rwa [State.memWrite_params]) s.l
  obtain ⟨-, hlCell⟩ := hlow
  obtain ⟨-, hhCell⟩ := State.holds_memWrite_ne hhigh hne s.l
  refine ⟨_, hexec, rfl, rfl, by simp, by simp, hlCell, hhCell, fun x hx => ?_⟩
  simp only [List.mem_cons, List.not_mem_nil, or_false, not_or] at hx
  obtain ⟨hx0, hx1⟩ := hx
  exact (State.memWrite_get?_ne hx0 _ _).trans (State.memWrite_get?_ne hx1 _ _)

/-! ### The obligations -/

/-- Settles O48: CALL and RST are one call, which the return undoes but for the two cells below SP. -/
theorem callThenReturnResumes : Obligations.CallThenReturnResumes := by
  intro s h1 h2
  exact ⟨fun a16 => ⟨_, rfl, rfl, congrArg _ (State.returnFrom_callTo h1 h2 _ a16)⟩,
    fun n => ⟨_, rfl, toNat_restartTarget n, congrArg _ (State.returnFrom_callTo h1 h2 _ (restartTarget n))⟩⟩

/-- Settles O49: the exchange twice, the second on the two cells the first filled. -/
theorem xthlExchangesHlWithStackTop : Obligations.XthlExchangesHlWithStackTop := by
  refine ⟨fun s => ⟨rfl, exec_xthl s⟩, fun s lo hi hrl hrh hlo hhi => ?_⟩
  obtain ⟨t, ht, htl, hth, htsp, htparams, htlo, hthi, htkept⟩ := exec_xthl_exchanges hrl hrh hlo hhi
  rw [← htsp] at htlo hthi
  obtain ⟨u, hu, hul, huh, husp, -, hulo, huhi, hukept⟩ :=
    exec_xthl_exchanges (by rwa [htparams, htsp]) (by rwa [htparams, htsp]) htlo hthi
  rw [htsp] at htlo hthi husp hulo huhi hukept
  refine ⟨t, u, ht, htl, hth, htsp, htlo, hthi, htkept, hu, hul, huh, husp, fun x _ => ?_⟩
  by_cases hx0 : x = s.sp
  · rw [hx0, hulo, htl, hlo]
  · by_cases hx1 : x = s.sp + 1#16
    · rw [hx1, huhi, hth, hhi]
    · have hx : x ∉ [s.sp, s.sp + 1#16] := by simp [hx0, hx1]
      rw [hukept x hx, htkept x hx]

/-- Settles O43: each is one update of `pc`. -/
theorem jumpsSetPc : Obligations.JumpsSetPc := fun _ _ => ⟨rfl, rfl, rfl, rfl⟩

/-- Settles O45: a call by its two stores; RST's target is `8 * n` with no wrap. -/
theorem callAndRestartPushReturnAddress : Obligations.CallAndRestartPushReturnAddress := by
  refine ⟨fun a16 s => ⟨rfl, exec_call a16 s⟩, fun n s => ⟨rfl, ?_⟩⟩
  rw [exec_rst, restartTarget_eq_ofNat]

/-- Settles O47: RET by its two reads; each conditional return by the flag value its condition asks for. -/
theorem returnsPopPc : Obligations.ReturnsPopPc := by
  intro s
  refine ⟨s.returnFrom, s.returnFrom_eq, rfl, rfl,
    rfl, returnIf_next_eq_ite ?rnz, rfl, returnIf_next_eq_ite ?rz, rfl, returnIf_next_eq_ite ?rnc,
    rfl, returnIf_next_eq_ite ?rc, rfl, returnIf_next_eq_ite ?rpo, rfl, returnIf_next_eq_ite ?rpe,
    rfl, returnIf_next_eq_ite ?rp, rfl, returnIf_next_eq_ite ?rm⟩
  case rnz | rnc | rpo | rp => exact iff_of_eq (Bool.not_eq_true' _)
  case rz | rc | rpe | rm => exact Iff.rfl

end Sys2Proof.Machine
end

/-! SUPPORT. The conditional jumps and calls (`44_conditional_branch.md` R200 to R218): the flag value each condition asks
for, and a jump and a call as a choice on that value. -/
section
namespace Sys2Proof.Machine

/-! ### Conditions -/

/-- The conditions that want their flag reset (bit 3 of R200's `ccc` is 0). -/
theorem Flags.holds_iff_reset (f : Flags) :
    (f.holds .nz = true ↔ f.z = false) ∧ (f.holds .nc = true ↔ f.cy = false) ∧
    (f.holds .po = true ↔ f.p = false) ∧ (f.holds .p = true ↔ f.s = false) :=
  ⟨iff_of_eq (Bool.not_eq_true' f.z), iff_of_eq (Bool.not_eq_true' f.cy),
    iff_of_eq (Bool.not_eq_true' f.p), iff_of_eq (Bool.not_eq_true' f.s)⟩

/-- The conditions that want their flag set (bit 3 of R200's `ccc` is 1). -/
theorem Flags.holds_iff_set (f : Flags) :
    (f.holds .z = true ↔ f.z = true) ∧ (f.holds .c = true ↔ f.cy = true) ∧
    (f.holds .pe = true ↔ f.p = true) ∧ (f.holds .m = true ↔ f.s = true) :=
  ⟨Iff.rfl, Iff.rfl, Iff.rfl, Iff.rfl⟩

/-! ### Jumps and calls -/

/-- A conditional jump by the flag value `P` its condition asks for: only `pc` depends on it. -/
theorem jumpIf_next_eq_ite {cond : Cond} {s : State} {P : Prop} [Decidable P] (a16 : Word)
    (h : s.flags.holds cond = true ↔ P) :
    (.next (s.jumpIf cond a16) : Result) = .next { s with pc := if P then a16 else s.pc + 3#16 } := by
  rcases s.jumpIf_cases cond a16 with ⟨htaken, e⟩ | ⟨hnot, e⟩
  · rw [e, if_pos (h.mp htaken)]
  · rw [e, if_neg (mt h.mpr (Bool.eq_false_iff.mp hnot))]
    rfl

/-- A conditional call by the flag value `P` its condition asks for: CALL's own state, or the next instruction. -/
theorem callIf_next_eq_ite {cond : Cond} {s : State} {P : Prop} [Decidable P] (a16 : Word)
    (h : s.flags.holds cond = true ↔ P) :
    (.next (s.callIf cond a16) : Result) =
      .next (if P then s.callTo (s.pc + 3#16) a16 else { s with pc := s.pc + 3#16 }) := by
  rcases s.callIf_cases cond a16 with ⟨htaken, e⟩ | ⟨hnot, e⟩
  · rw [e, if_pos (h.mp htaken)]
    rfl
  · rw [e, if_neg (mt h.mpr (Bool.eq_false_iff.mp hnot))]
    rfl

/-! ### The obligations -/

/-- Settles O44: each jump by the flag value its condition asks for. -/
theorem conditionalJumpsTestTheirFlag : Obligations.ConditionalJumpsTestTheirFlag := by
  intro w s
  obtain ⟨hnz, hnc, hpo, hp⟩ := s.flags.holds_iff_reset
  obtain ⟨hz, hc, hpe, hm⟩ := s.flags.holds_iff_set
  exact ⟨rfl, jumpIf_next_eq_ite w hnz, rfl, jumpIf_next_eq_ite w hz, rfl, jumpIf_next_eq_ite w hnc,
    rfl, jumpIf_next_eq_ite w hc, rfl, jumpIf_next_eq_ite w hpo, rfl, jumpIf_next_eq_ite w hpe,
    rfl, jumpIf_next_eq_ite w hp, rfl, jumpIf_next_eq_ite w hm⟩

/-- Settles O46: each call, by the flag value its condition asks for, ends in the state CALL ends in. -/
theorem conditionalCallsTestTheirFlag : Obligations.ConditionalCallsTestTheirFlag := by
  intro w s
  obtain ⟨hnz, hnc, hpo, hp⟩ := s.flags.holds_iff_reset
  obtain ⟨hz, hc, hpe, hm⟩ := s.flags.holds_iff_set
  exact ⟨s.callTo (s.pc + 3#16) w, rfl, exec_call w s,
    rfl, callIf_next_eq_ite w hnz, rfl, callIf_next_eq_ite w hz, rfl, callIf_next_eq_ite w hnc,
    rfl, callIf_next_eq_ite w hc, rfl, callIf_next_eq_ite w hpo, rfl, callIf_next_eq_ite w hpe,
    rfl, callIf_next_eq_ite w hp, rfl, callIf_next_eq_ite w hm⟩

end Sys2Proof.Machine
end

/-! SUPPORT. The stack and machine control instructions (`45_stack_io_machine.md` R230 to R233, R235, R238 to R241): each as one
update of the state before it, and the bits of the bytes PUSH PSW stores and RIM shows. -/
section
namespace Sys2Proof.Machine

/-! ### PUSH -/

/-- The counter of free values plays no part in a store. -/
theorem State.memWrite_with_draws (k : Nat) (addr : Word) (v : Byte) (s : State) :
    { s with draws := k }.memWrite addr v = { s.memWrite addr v with draws := k } := by
  cases hr : regionOf s.params addr <;> simp only [State.memWrite, hr, State.record]

/-- PUSH, by the two bytes of the value it stores. -/
theorem exec_push_of_stackPairValue {rp : StackPair} {s t : State} {hi lo : Byte}
    (h : s.stackPairValue rp = (joinBytes hi lo, t)) : exec (.push rp) s = .next
      { (t.memWrite (t.sp - 1#16) hi).memWrite (t.sp - 2#16) lo with sp := t.sp - 2#16, pc := t.pc + 1#16 } := by
  have hpc : (t.push16 (joinBytes hi lo)).pc = t.pc := State.push16_pc _ t
  show execPush rp s = _
  simp only [execPush, h, State.advance, hpc]
  simp only [State.push16, hiByte_joinBytes, loByte_joinBytes]

/-- The flag byte `S Z u AC u P u CY` (R27): the five flag bits, whatever the unused bits. -/
theorem Flags.getLsbD_toByte (f : Flags) (u : BitVec 3) :
    (f.toByte u).getLsbD 7 = f.s ∧ (f.toByte u).getLsbD 6 = f.z ∧ (f.toByte u).getLsbD 4 = f.ac ∧
    (f.toByte u).getLsbD 2 = f.p ∧ (f.toByte u).getLsbD 0 = f.cy := by
  have h : Flags.ofByte (f.toByte u) = f := Flags.ofByte_toByte f u
  exact ⟨congrArg Flags.s h, congrArg Flags.z h, congrArg Flags.ac h, congrArg Flags.p h, congrArg Flags.cy h⟩

theorem exec_push_psw (s : State) : exec (.push .psw) s = .next
    { (s.memWrite (s.sp - 1#16) s.a).memWrite (s.sp - 2#16) (s.flags.toByte (Config.freePswBits s.draws)) with
      sp := s.sp - 2#16, pc := s.pc + 1#16, draws := s.draws + 1 } := by
  rw [exec_push_of_stackPairValue (rp := .psw) rfl, State.memWrite_with_draws _ _ _ s,
    State.memWrite_with_draws _ _ _ (s.memWrite (s.sp - 1#16) s.a)]

/-! ### POP -/

/-- POP, by its two reads. -/
theorem exec_pop (rp : StackPair) (s : State) : exec (.pop rp) s = .next
    (({ ((s.memRead s.sp).2.memRead (s.sp + 1#16)).2 with sp := s.sp + 2#16, pc := s.pc + 1#16 } : State).setStackPair rp
      (joinBytes ((s.memRead s.sp).2.memRead (s.sp + 1#16)).1 (s.memRead s.sp).1)) := by
  have hpc : ((s.memRead s.sp).2.memRead (s.sp + 1#16)).2.pc = s.pc := by simp
  rw [← hpc]
  cases rp <;> rfl

/-- What POP writes of two bytes: the high-order one to the first-named register, or A and the five flags. -/
theorem State.setStackPair_joinBytes (hi lo : Byte) (s : State) :
    s.setStackPair .bc (joinBytes hi lo) = { s with b := hi, c := lo } ∧
    s.setStackPair .de (joinBytes hi lo) = { s with d := hi, e := lo } ∧
    s.setStackPair .hl (joinBytes hi lo) = { s with h := hi, l := lo } ∧
    s.setStackPair .psw (joinBytes hi lo) = { s with a := hi, flags := Flags.ofByte lo } := by
  simp only [State.setStackPair, State.setPair, hiByte_joinBytes, loByte_joinBytes, and_self]

/-! ### RIM -/

/-- The serial bit: the boundary's where it gives one; only the counter of free values may move. -/
theorem State.sampleSid_eq (s : State) :
    ∃ bit k, s.sampleSid = (bit, { s with draws := k }) ∧ ∀ level, s.now.sid = some level → bit = level := by
  cases h : s.now.sid with
  | some v => exact ⟨v, s.draws, by simp [State.sampleSid, h], fun _ hv => Option.some.inj hv⟩
  | none => exact ⟨Config.freeBit s.draws, s.draws + 1, by simp [State.sampleSid, h, State.drawBit], nofun⟩

/-- The IE bit: IE itself but after a TRAP; only the counter of free values may move. -/
theorem State.sampleIe_eq (s : State) :
    ∃ bit k, s.sampleIe = (bit, { s with draws := k }) ∧ (s.trapSinceRim = false → bit = s.ie) := by
  by_cases h : s.trapSinceRim = true
  · exact ⟨Config.freeBit s.draws, s.draws + 1, if_pos h, fun hf => absurd h (Bool.eq_false_iff.mp hf)⟩
  · exact ⟨s.ie, s.draws, if_neg h, fun _ => rfl⟩

/-- The byte RIM shows, bit 7 first. -/
def rimByte (sid r75 l65 l55 ie m75 m65 m55 : Bool) : Byte :=
  BitVec.ofBool sid ++ BitVec.ofBool r75 ++ BitVec.ofBool l65 ++ BitVec.ofBool l55 ++
  BitVec.ofBool ie ++ BitVec.ofBool m75 ++ BitVec.ofBool m65 ++ BitVec.ofBool m55

theorem getLsbD_rimByte (sid r75 l65 l55 ie m75 m65 m55 : Bool) :
    let v := rimByte sid r75 l65 l55 ie m75 m65 m55
    v.getLsbD 7 = sid ∧ v.getLsbD 6 = r75 ∧ v.getLsbD 5 = l65 ∧ v.getLsbD 4 = l55 ∧
    v.getLsbD 3 = ie ∧ v.getLsbD 2 = m75 ∧ v.getLsbD 1 = m65 ∧ v.getLsbD 0 = m55 := by
  revert sid r75 l65 l55 ie m75 m65 m55
  decide +kernel

/-- RIM, by the two bits it samples. -/
theorem exec_rim_of_samples {s : State} {sid ie : Bool} {j k : Nat} (hsid : s.sampleSid = (sid, { s with draws := j }))
    (hie : { s with draws := j }.sampleIe = (ie, { s with draws := k })) : exec .rim s = .next { s with
      a := rimByte sid s.r75 s.now.l65 s.now.l55 ie s.m75 s.m65 s.m55
      trapSinceRim := false, draws := k, pc := s.pc + 1#16 } := by
  show execRim s = _
  simp only [execRim, hsid, hie]
  rfl

/-! ### HLT, EI -/

theorem exec_hlt (s : State) :
    (s.params.hltPc = .stay → exec .hlt s = .next { s with halted := true }) ∧
    (s.params.hltPc = .advance → exec .hlt s = .next { s with halted := true, pc := s.pc + 1#16 }) := by
  show (_ → execHlt s = _) ∧ (_ → execHlt s = _)
  constructor <;> intro h <;> simp only [execHlt, h, State.next]

theorem exec_ei (s : State) : exec .ei s = .next { s with
    ie := true, eiShadow := decide (s.params.eiDelay = EiDelay.oneInstruction), pc := s.pc + 1#16 } := rfl

/-- IE as the boundary test reads it (R285): the shadow counts only under `EI_DELAY = one_instruction`. -/
theorem State.enabled_eq (s : State) :
    (s.params.eiDelay = .none → s.enabled = s.ie) ∧
    (s.params.eiDelay = .oneInstruction → s.enabled = (s.ie && !s.eiShadow)) := by
  constructor <;> intro h <;> simp [State.enabled, h]

/-! ### The obligations -/

/-- Settles O50: PUSH by the two bytes of its value, PUSH PSW with the flag byte, POP by its two reads. -/
theorem pushAndPopMovePairs : Obligations.PushAndPopMovePairs := by
  refine ⟨fun _ => ⟨rfl, rfl⟩, fun s rp hi lo h => ?push, fun s => ?pushPsw, fun s => ?pop⟩
  case push =>
    simp only [List.mem_cons, Prod.mk.injEq, List.not_mem_nil, or_false] at h
    rcases h with ⟨rfl, rfl, rfl⟩ | ⟨rfl, rfl, rfl⟩ | ⟨rfl, rfl, rfl⟩ <;> exact exec_push_of_stackPairValue rfl
  case pushPsw =>
    obtain ⟨hs, hz, hac, hp, hcy⟩ := s.flags.getLsbD_toByte (Config.freePswBits s.draws)
    exact ⟨_, hs, hz, hac, hp, hcy, exec_push_psw s⟩
  case pop =>
    obtain ⟨hbc, hde, hhl, hpsw⟩ := State.setStackPair_joinBytes ((s.memRead s.sp).2.memRead (s.sp + 1#16)).1
      (s.memRead s.sp).1 { ((s.memRead s.sp).2.memRead (s.sp + 1#16)).2 with sp := s.sp + 2#16, pc := s.pc + 1#16 }
    exact ⟨_, _, _, rfl, rfl, (exec_pop .bc s).trans (congrArg _ hbc), (exec_pop .de s).trans (congrArg _ hde),
      (exec_pop .hl s).trans (congrArg _ hhl), (exec_pop .psw s).trans (congrArg _ hpsw)⟩

/-- Settles O57: by the two bits RIM samples, the rest being bits of the state. -/
theorem rimReadsInterruptStatus : Obligations.RimReadsInterruptStatus := by
  intro s
  obtain ⟨sid, j, hsid, hlevel⟩ := s.sampleSid_eq
  obtain ⟨ie, k, hie, hshown⟩ := State.sampleIe_eq { s with draws := j }
  obtain ⟨h7, h6, h5, h4, h3, h2, h1, h0⟩ := getLsbD_rimByte sid s.r75 s.now.l65 s.now.l55 ie s.m75 s.m65 s.m55
  exact ⟨rfl, _, k, exec_rim_of_samples hsid hie, fun level h => h7.trans (hlevel level h), h6, h5, h4,
    fun h => h3.trans (hshown h), h2, h1, h0⟩

/-- Settles O52: NOP and SPHL are one update each; HLT by the two settings of HLT_PC. -/
theorem nopHltAndSphl : Obligations.NopHltAndSphl := fun s =>
  ⟨rfl, rfl, rfl, rfl, (exec_hlt s).1, (exec_hlt s).2, rfl⟩

/-- Settles O55: EI by the two settings of EI_DELAY, with the next boundary test under each; DI is one update. -/
theorem enableAndDisableInterrupts : Obligations.EnableAndDisableInterrupts := fun s =>
  ⟨rfl, rfl, fun h => ⟨by rw [exec_ei, h]; rfl, (State.enabled_eq _).1 h⟩,
    fun h => ⟨by rw [exec_ei, h]; rfl, (State.enabled_eq _).2 h⟩, rfl⟩

/-- Settles O58: SIM is one update, each field under its own enable bit of A. -/
theorem simSetsMasksLatchAndSerialOutput : Obligations.SimSetsMasksLatchAndSerialOutput := fun _ => ⟨rfl, rfl⟩

end Sys2Proof.Machine
end

/-! SUPPORT. Interrupts (`60_exceptions.md` R252 to R260): which source a boundary accepts, the entry as a call from `pc`
beside what acceptance clears, the INTR acknowledge by what the device supplies, and the return. -/
section
namespace Sys2Proof.Machine

/-! ### The boundary test -/

/-- The sources in the order of R254. -/
def Source.byPriority : List Source := [.trap, .rst75, .rst65, .rst55, .intr]

theorem Source.mem_byPriority (src : Source) : src ∈ byPriority := by cases src <;> decide

theorem Source.byPriority_sorted : byPriority.Pairwise (fun src other => src.rank < other.rank) := by decide

theorem Source.rank_injective : Function.Injective rank := by
  intro src other h
  cases src <;> cases other <;> trivial -- one source twice, or two different ranks in `h`

/-- The condition R252 asks of a source, as the bit the boundary test reads. -/
def State.requestBit (s : State) : Source → Bool
  | .trap => s.now.trap
  | .rst75 => s.r75 && !s.m75 && s.enabled
  | .rst65 => s.now.l65 && !s.m65 && s.enabled
  | .rst55 => s.now.l55 && !s.m55 && s.enabled
  | .intr => s.now.intr && s.enabled

theorem State.requestBit_iff {s : State} {src : Source} : s.requestBit src = true ↔ s.Requests src := by
  cases src <;> simp [State.requestBit, State.Requests, and_assoc]

/-- The boundary test is a search in the order of priority. -/
theorem State.acceptable_eq_find? (s : State) : s.acceptable = Source.byPriority.find? s.requestBit := by
  rcases s.acceptable_cases with ⟨e, h⟩ | ⟨e, h⟩ | ⟨e, h⟩ | ⟨e, h⟩ | ⟨e, h⟩ | ⟨e, h⟩ <;>
    simp only [e, h, Source.byPriority, State.requestBit, List.find?]

theorem State.requests_of_acceptable {s : State} {src : Source} (h : s.acceptable = some src) : s.Requests src :=
  requestBit_iff.mp (List.find?_some (s.acceptable_eq_find? ▸ h))

theorem State.acceptable_eq_none_iff {s : State} : s.acceptable = none ↔ ∀ src, ¬ s.Requests src := by
  rw [acceptable_eq_find?, List.find?_eq_none]
  exact ⟨fun h src => mt requestBit_iff.mpr (h src src.mem_byPriority), fun h src _ => mt requestBit_iff.mp (h src)⟩

/-- What requests stands at the accepted source in the order or after it (R254). -/
theorem State.rank_le_of_acceptable {s : State} {src other : Source} (h : s.acceptable = some src)
    (hother : s.Requests other) : src.rank ≤ other.rank := by
  rw [acceptable_eq_find?, List.find?_eq_some_iff_append] at h
  obtain ⟨-, before, after, hlist, hbefore⟩ := h
  have hmem := hlist ▸ other.mem_byPriority
  have hsorted := hlist ▸ Source.byPriority_sorted
  obtain ⟨-, htail, -⟩ := List.pairwise_append.mp hsorted
  obtain ⟨hafter, -⟩ := List.pairwise_cons.mp htail
  rcases List.mem_append.mp hmem with hin | hin
  · have hno := hbefore other hin
    rw [requestBit_iff.mpr hother] at hno
    cases hno
  · rcases List.mem_cons.mp hin with rfl | hin
    · exact Nat.le_refl _
    · exact Nat.le_of_lt (hafter other hin)

theorem State.acceptable_eq_some_iff {s : State} {src : Source} : s.acceptable = some src ↔
    s.Requests src ∧ ∀ other, s.Requests other → src.rank ≤ other.rank := by
  refine ⟨fun h => ⟨requests_of_acceptable h, fun _ => rank_le_of_acceptable h⟩, fun ⟨hreq, hmin⟩ => ?_⟩
  cases h : s.acceptable with
  | none => exact absurd hreq (acceptable_eq_none_iff.mp h src)
  | some first =>
    have hle := rank_le_of_acceptable h hreq
    have hge := hmin first (requests_of_acceptable h)
    rw [Source.rank_injective (Nat.le_antisymm hle hge)]

theorem State.enabled_iff (s : State) :
    s.enabled = true ↔ s.ie = true ∧ (s.params.eiDelay = .none ∨ s.eiShadow = false) := by
  obtain ⟨hnone, hone⟩ := s.enabled_eq
  cases h : s.params.eiDelay with
  | none => simp [hnone h]
  | oneInstruction => simp [hone h]

/-- TRAP is first in the order and asks for no enable (R252, R259). -/
theorem State.acceptable_of_trap {s : State} (h : s.now.trap = true) : s.acceptable = some .trap :=
  acceptable_eq_some_iff.mpr ⟨h, fun other _ => Nat.zero_le other.rank⟩

/-! ### The step by what the boundary decides -/

theorem step_of_reset {s : State} (h : s.sample.now.reset = true) : step s = .next s.sample.systemReset := by
  simp [step, h]

theorem step_of_acceptable {s : State} {src : Source} (hreset : s.sample.now.reset = false)
    (h : s.sample.acceptable = some src) : step s = s.sample.takeInterrupt src := by
  simp [step, hreset, h]

theorem step_of_idle {s : State} (hreset : s.sample.now.reset = false) (hnone : s.sample.acceptable = none)
    (hhalted : s.halted = true) : step s = .next s.sample := by
  simp [step, hreset, hnone, hhalted]

/-! ### The entry: a call from `pc`, beside what acceptance clears -/

/-- An update of the state that neither reads nor writes what a call does: the memory, the map, the record, SP and `pc`. -/
structure StackBlind (f : State → State) : Prop where
  params (s : State) : (f s).params = s.params
  sp (s : State) : (f s).sp = s.sp
  mem (s : State) : (f s).mem = s.mem
  setMem (m : Memory) (s : State) : f { s with mem := m } = { f s with mem := m }
  record (ev : Event) (s : State) : f (s.record ev) = (f s).record ev
  setSpPc (sp pc : Word) (s : State) : f { s with sp := sp, pc := pc } = { f s with sp := sp, pc := pc }

theorem StackBlind.memWrite {f : State → State} (hf : StackBlind f) (addr : Word) (v : Byte) (s : State) :
    (f s).memWrite addr v = f (s.memWrite addr v) := by
  rcases s.memWrite_cases addr v with ⟨hr, e⟩ | ⟨hr, e⟩ | ⟨hr, e⟩ <;> rw [← hf.params s] at hr <;> rw [e]
  · exact (State.memWrite_of_ram hr v).trans (hf.mem s ▸ (hf.setMem _ s).symm)
  · exact State.memWrite_of_rom_or_absent hr v
  · exact (State.memWrite_of_device hr v).trans (hf.record _ s).symm

theorem StackBlind.callTo {f : State → State} (hf : StackBlind f) (back target : Word) (s : State) :
    (f s).callTo back target = f (s.callTo back target) := by
  simp only [State.callTo, State.push16, hf.sp, hf.memWrite]
  exact (hf.setSpPc _ _ _).symm

theorem stackBlind_accepting (src : Source) : StackBlind (State.accepting src) :=
  ⟨fun _ => rfl, fun _ => rfl, fun _ => rfl, fun _ _ => rfl, fun _ _ => rfl, fun _ _ _ => rfl⟩

theorem stackBlind_sample : StackBlind State.sample :=
  ⟨fun _ => rfl, fun _ => rfl, fun _ => rfl, fun _ _ => rfl, fun _ _ => rfl, fun _ _ _ => rfl⟩

theorem stackBlind_setDraws (k : Nat) : StackBlind fun s => { s with draws := k } :=
  ⟨fun _ => rfl, fun _ => rfl, fun _ => rfl, fun _ _ => rfl, fun _ _ => rfl, fun _ _ _ => rfl⟩

/-- The entry as R256 writes it: the two stores and the six fields. -/
theorem State.callTo_accepting_eq (src : Source) (target : Word) (s : State) :
    (s.accepting src).callTo s.pc target =
      { (s.memWrite (s.sp - 1#16) (hiByte s.pc)).memWrite (s.sp - 2#16) (loByte s.pc) with
        sp := s.sp - 2#16
        pc := target
        halted := false
        ie := false
        r75 := if src = .rst75 then false else s.r75
        trapSinceRim := if src = .trap then true else s.trapSinceRim } := by
  rw [(stackBlind_accepting src).callTo]
  simp [State.accepting, State.callTo, State.push16]

theorem State.takeInterrupt_of_entry {src : Source} {entry : Word} (h : src.entry = some entry) (s : State) :
    s.takeInterrupt src = .next ((s.accepting src).callTo s.pc entry) := by
  simp only [State.takeInterrupt, h]

/-- INTR clears neither R75 nor the note for RIM (R256). -/
theorem State.callTo_accepting_intr_eq (target : Word) (s : State) :
    (s.accepting .intr).callTo s.pc target =
      { (s.memWrite (s.sp - 1#16) (hiByte s.pc)).memWrite (s.sp - 2#16) (loByte s.pc) with
        sp := s.sp - 2#16, pc := target, halted := false, ie := false } := by
  simp [callTo_accepting_eq]

/-! ### INTR, by what the device supplies (R258) -/

theorem State.takeInterrupt_of_restart {s : State} {n : BitVec 3} {lo hi : Byte}
    (h : s.now.inta = .bytes (0b11#2 ++ n ++ 0b111#3) lo hi) :
    s.takeInterrupt .intr = .next ((s.accepting .intr).callTo s.pc (restartTarget n)) := by
  have hdecode : decodeBytes (0b11#2 ++ n ++ 0b111#3) lo hi = some (.rst n) := decodeBytes_opcode_rst n lo hi
  show (s.accepting .intr).acknowledge = _
  simp only [State.acknowledge, State.accepting, h, hdecode]

theorem State.takeInterrupt_of_call {s : State} {lo hi : Byte} (h : s.now.inta = .bytes 0xCD#8 lo hi) :
    s.takeInterrupt .intr = .next ((s.accepting .intr).callTo s.pc (joinBytes hi lo)) := by
  have hdecode : decodeBytes 0xCD#8 lo hi = some (.call (joinBytes hi lo)) := rfl
  show (s.accepting .intr).acknowledge = _
  simp only [State.acknowledge, State.accepting, h, hdecode]

/-- What decodes to RST n or CALL has its first byte, so another first byte is refused. -/
theorem State.takeInterrupt_of_other {s : State} {op lo hi : Byte} (h : s.now.inta = .bytes op lo hi)
    (hcall : op ≠ 0xCD#8) (hrst : ∀ n : BitVec 3, op ≠ 0b11#2 ++ n ++ 0b111#3) :
    s.takeInterrupt .intr = .refused (.intaOpcode op) := by
  show (s.accepting .intr).acknowledge = _
  simp only [State.acknowledge, State.accepting, h]
  split
  · next n hdecode =>
    obtain ⟨-, henc⟩ := decodeBytes_eq_some_iff.mp hdecode
    exact absurd (List.head_eq_of_cons_eq henc).symm (hrst n)
  · next a16 hdecode =>
    obtain ⟨-, henc⟩ := decodeBytes_eq_some_iff.mp hdecode
    exact absurd (List.head_eq_of_cons_eq henc).symm hcall
  · rfl

theorem State.takeInterrupt_of_anyRestart {s : State} (h : s.now.inta = .anyRestart) :
    s.takeInterrupt .intr = .next ({ s.accepting .intr with draws := s.draws + 1 }.callTo s.pc
      (restartTarget (Config.freeRestart s.draws))) := by
  show (s.accepting .intr).acknowledge = _
  simp only [State.acknowledge, State.accepting, h]

/-! ### The return (R260) -/

/-- RET after an entry over a stack in `ram`: the entry is a call, and RET undoes no more than its push. -/
theorem ret_after_callTo_accepting {s : State} (h1 : regionOf s.params (s.sp - 1#16) = .ram)
    (h2 : regionOf s.params (s.sp - 2#16) = .ram) {src : Source} {k : Nat} {target : Word}
    (h : s.takeInterrupt src = .next ({ s.accepting src with draws := k }.callTo s.pc target)) :
    ∃ t, s.takeInterrupt src = .next t ∧ t.ie = false ∧ exec .ret t = .next { t with pc := s.pc, sp := s.sp } :=
  ⟨_, h, State.callTo_ie _ _ _, congrArg _
    (State.returnFrom_callTo (s := { s.accepting src with draws := k }) h1 h2 s.pc target)⟩

/-! ### The obligations -/

/-- Settles O9: by the source accepted and the ones before it; IE by the two settings of EI_DELAY. -/
theorem acceptedSourceIsEnabledAndFirst : Obligations.AcceptedSourceIsEnabledAndFirst :=
  ⟨fun _ _ => State.acceptable_eq_some_iff, fun _ => State.acceptable_eq_none_iff, State.enabled_iff⟩

/-- Settles O10: the entry addresses are the model's table, the entry is a call from `pc` with what acceptance clears. -/
theorem vectoredInterruptEntry : Obligations.VectoredInterruptEntry := by
  refine ⟨⟨rfl, rfl, rfl, rfl, rfl⟩, fun s src entry h => ?_⟩
  rw [State.takeInterrupt_of_entry h, State.callTo_accepting_eq]

/-- Settles O11: one law for each thing the device can supply, and the restart's target `8 * n` with no wrap. -/
theorem intrExecutesSuppliedRestartOrCall : Obligations.IntrExecutesSuppliedRestartOrCall := by
  refine fun s => ⟨fun n lo hi h => ?restart, fun lo hi h => ?call,
    fun op lo hi h hcall hrst => State.takeInterrupt_of_other h hcall hrst, fun h => ⟨Config.freeRestart s.draws, ?free⟩⟩
  case restart =>
    rw [State.takeInterrupt_of_restart h, State.callTo_accepting_intr_eq, restartTarget_eq_ofNat]
  case call => rw [State.takeInterrupt_of_call h, State.callTo_accepting_intr_eq]
  case free =>
    rw [State.takeInterrupt_of_anyRestart h, (stackBlind_setDraws _).callTo, State.callTo_accepting_intr_eq,
      restartTarget_eq_ofNat]

/-- Settles O12: TRAP is first whatever else is requested, and its entry writes neither a mask nor a register. -/
theorem trapIsTakenWhateverIsMasked : Obligations.TrapIsTakenWhateverIsMasked := by
  intro s hreset htrap
  obtain ⟨-, hentry⟩ := vectoredInterruptEntry
  refine ⟨_, (step_of_acceptable hreset (State.acceptable_of_trap htrap)).trans (hentry _ _ _ rfl),
    rfl, rfl, rfl, rfl, by simp, by simp, by simp, rfl, by simp, fun r => ?_, ?_⟩
  · cases r <;> simp [State.getReg]
  · simp only [stackBlind_sample.memWrite, State.sample_mem, State.sample_sp, State.sample_pc]

/-- Settles O13: an acceptance that answers is a call from `pc`, and under each hypothesis it answers. -/
theorem returnEndsInterruptRoutine : Obligations.ReturnEndsInterruptRoutine := by
  intro s src hsrc h1 h2
  rcases s.takeInterrupt_cases src with ⟨k, target, e, -, -⟩ | ⟨rfl, op, e⟩
  · exact ret_after_callTo_accepting h1 h2 e
  · rcases hsrc with hne | hfree | ⟨n, lo, hi, hrst⟩ | ⟨lo, hi, hcall⟩
    · exact absurd rfl hne
    · cases (State.takeInterrupt_of_anyRestart hfree).symm.trans e
    · cases (State.takeInterrupt_of_restart hrst).symm.trans e
    · cases (State.takeInterrupt_of_call hcall).symm.trans e

/-- Settles O8: sampling is one update, and the step takes the first of its branches that applies. -/
theorem stepAcceptsIdlesOrResets : Obligations.StepAcceptsIdlesOrResets :=
  ⟨fun s b rest h => by simp [State.sample, h], fun s h => by simp [State.sample, h, Boundary.quiet],
    fun _ => step_of_reset, fun _ _ => step_of_acceptable, fun _ => step_of_idle⟩

/-- Settles O18: there is no fault to end in, and every instruction has a meaning. -/
theorem nothingFaultsAndEveryInstructionCompletes : Obligations.NothingFaultsAndEveryInstructionCompletes := by
  refine ⟨fun _ f => (nomatch f), fun i s => ?_⟩
  obtain ⟨t, ht, -⟩ := exec_envKept i s
  exact ⟨t, ht⟩

end Sys2Proof.Machine
end

/-! SUPPORT. Timing (`70_reset_and_hazards.md` R286 to R289): the rows of the table, the shape all instructions but HLT
have, and the cost of a path. -/
section
namespace Sys2Proof.Machine

/-! ### The rows of the table -/

/-- A row of R287: instructions that all have the same cycles have their number and their T-states. -/
theorem cyclesOf_row {is : List Instr} {taken : Bool} {count tStates : Nat} {cycles : List Cycle}
    (hcycles : is.map (cyclesOf · taken) = List.replicate is.length cycles) (hcount : cycles.length = count)
    (hsum : (cycles.map Cycle.tStates).sum = tStates) :
    ∀ i ∈ is, (cyclesOf i taken).length = count ∧ tStatesOf i taken = tStates ∧ cyclesOf i taken = cycles := by
  intro i hi
  have h : cyclesOf i taken = cycles := List.map_eq_replicate_iff.mp hcycles i hi
  exact ⟨h ▸ hcount, by rw [tStatesOf, h, hsum], h⟩

/-! ### The shape of an instruction's cycles -/

/-- An opcode fetch and at most four cycles of 3 T-states. -/
def fetchThenTransfers : List Cycle → Bool
  | .fetch4 :: rest | .fetch6 :: rest => decide (rest.length ≤ 4) && rest.all (fun c => c.tStates == 3)
  | _ => false

theorem fetchThenTransfers_iff {cycles : List Cycle} : fetchThenTransfers cycles = true ↔
    ∃ first rest, cycles = first :: rest ∧ (first = .fetch4 ∨ first = .fetch6) ∧ rest.length ≤ 4 ∧
      ∀ c ∈ rest, c.tStates = 3 := by
  cases cycles with
  | nil => simp [fetchThenTransfers]
  | cons first rest => cases first <;> simp [fetchThenTransfers]

/-- Every row of R287 but HLT's is an opcode fetch and transfers, by the operand and by whether the condition holds. -/
theorem fetchThenTransfers_cyclesOf {i : Instr} (hi : i ≠ .hlt) (taken : Bool) :
    fetchThenTransfers (cyclesOf i taken) = true := by
  cases i with
  | hlt => exact absurd rfl hi
  | mov dst src => cases dst <;> cases src <;> rfl
  | mvi o | inr o | dcr o | add o | adc o | sub o | sbb o | ana o | ora o | xra o | cmp o => cases o <;> rfl
  | jnz | jz | jnc | jc | jpo | jpe | jp | jm | cnz | cz | cnc | cc | cpo | cpe | cp | cm
  | rnz | rz | rnc | rc | rpo | rpe | rp | rm => cases taken <;> rfl
  | _ => rfl

theorem sum_tStates_of_transfers {rest : List Cycle} (h : ∀ c ∈ rest, c.tStates = 3) :
    (rest.map Cycle.tStates).sum = 3 * rest.length := by
  rw [List.map_eq_replicate_iff.mpr h, List.sum_replicate, smul_eq_mul, Nat.mul_comm]

/-- A conditional jump, call or return saves cycles where it is not taken; for the others the condition is none. -/
theorem tStatesOf_false_le_true (i : Instr) : tStatesOf i false ≤ tStatesOf i true := by
  cases i with
  | jnz | jz | jnc | jc | jpo | jpe | jp | jm => exact Nat.le_add_right 7 3
  | cnz | cz | cnc | cc | cpo | cpe | cp | cm => exact Nat.le_add_right 9 9
  | rnz | rz | rnc | rc | rpo | rpe | rp | rm => exact Nat.le_add_right 6 6
  | _ => exact Nat.le_refl _

/-! ### The cost of a path -/

theorem pathTStates_append (path rest : List (Instr × Bool)) :
    pathTStates (path ++ rest) = pathTStates path + pathTStates rest := by
  simp [pathTStates]

theorem pathTStates_cons (i : Instr) (taken : Bool) (rest : List (Instr × Bool)) :
    pathTStates ((i, taken) :: rest) = tStatesOf i taken + pathTStates rest := rfl

/-- The last pass of a loop costs 3 T-states less than the others, where that is what its jump saves. -/
theorem pathTStates_loopPath {jump : Instr} (hsaves : tStatesOf jump true = tStatesOf jump false + 3)
    (body : List (Instr × Bool)) (n : Nat) :
    pathTStates (loopPath body jump n) + 3 = (n + 1) * (pathTStates body + tStatesOf jump true) := by
  induction n with
  | zero =>
    have hlast : pathTStates (loopPath body jump 0) = pathTStates body + tStatesOf jump false :=
      pathTStates_append body [(jump, false)]
    omega
  | succ n ih =>
    have hpass : pathTStates (loopPath body jump (n + 1)) =
        pathTStates body + (tStatesOf jump true + pathTStates (loopPath body jump n)) := by
      rw [loopPath, pathTStates_append, pathTStates_cons]
    rw [hpass, Nat.succ_mul, ← ih]
    omega

/-! ### The obligations -/

/-- Settles O59: each row by its cycles; the shape by the fetch and the transfers after it, with HLT by itself. -/
theorem machineCyclesFitTheInstruction : Obligations.MachineCyclesFitTheInstruction := by
  refine ⟨fun r q rp pp sp n v w => ⟨fun row hrow => ?always, fun row hrow => ?conditional⟩,
    fun taken => ⟨rfl, rfl, rfl⟩, fun i taken => ?shape⟩
  case always =>
    simp only [List.mem_cons, List.not_mem_nil, or_false] at hrow
    rcases hrow with rfl | rfl | rfl | rfl | rfl | rfl | rfl | rfl | rfl | rfl | rfl | rfl | rfl | rfl | rfl | rfl
    all_goals exact fun i hi taken => cyclesOf_row rfl rfl rfl i hi
  case conditional =>
    simp only [List.mem_cons, List.not_mem_nil, or_false] at hrow
    rcases hrow with rfl | rfl | rfl | rfl | rfl | rfl
    all_goals exact cyclesOf_row rfl rfl rfl
  case shape =>
    have hle := tStatesOf_false_le_true i
    by_cases hi : i = .hlt
    · subst hi
      exact ⟨.fetch4, [.haltWait], rfl, .inl rfl, by decide, by decide, by decide, fun h => absurd rfl h, hle⟩
    · obtain ⟨first, rest, hcycles, hfetch, hlength, hrest⟩ :=
        fetchThenTransfers_iff.mp (fetchThenTransfers_cyclesOf hi taken)
      refine ⟨first, rest, hcycles, hfetch, hlength, fun h => ?_, fun h => ?_, fun _ => ?_, hle⟩
      · exact absurd (hrest _ h) (by decide)
      · exact absurd (hrest _ h) (by decide)
      · rw [tStatesOf, hcycles, List.map_cons, List.sum_cons, sum_tStates_of_transfers hrest]

/-- Settles O60: by the rows of the conditional jumps, 7 T-states not taken and 10 taken. -/
theorem delayLoopTStates : Obligations.DelayLoopTStates := by
  intro body a16 jump n hjump
  obtain ⟨-, htaken, -⟩ := cyclesOf_row (taken := true) (tStates := 10) rfl rfl rfl jump hjump
  obtain ⟨-, hnot, -⟩ := cyclesOf_row (taken := false) (tStates := 7) rfl rfl rfl jump hjump
  exact pathTStates_loopPath (by rw [htaken, hnot]) body n

end Sys2Proof.Machine
end

/-! SUPPORT. Reset and the hazards around EI (`70_reset_and_hazards.md` R280, R281, R285), and the ends of a run in a refusal
(R290). -/
section
namespace Sys2Proof.Machine

/-- While the shadow lasts the boundary test reads IE as 0 (R285). -/
theorem State.enabled_of_eiShadow {s : State} (hdelay : s.params.eiDelay = .oneInstruction) (hshadow : s.eiShadow = true) :
    s.enabled = false := by
  obtain ⟨-, hone⟩ := s.enabled_eq
  rw [hone hdelay, hshadow, Bool.not_true, Bool.and_false]

/-- Every source but TRAP asks for the enable (`60_exceptions.md` R252). -/
theorem State.enabled_of_requests {s : State} {src : Source} (h : s.Requests src) (hsrc : src ≠ .trap) :
    s.enabled = true := by
  cases src with
  | trap => exact absurd rfl hsrc
  | rst75 | rst65 | rst55 =>
    obtain ⟨-, -, henabled⟩ := h
    exact henabled
  | intr =>
    obtain ⟨-, henabled⟩ := h
    exact henabled

/-- The acceptance of a source is refused for INTR only, and only where the device supplies bytes that are neither RST n
nor CALL (`60_exceptions.md` R258). -/
theorem State.intr_of_takeInterrupt_refused {src : Source} {s : State} {r : Refusal}
    (h : s.takeInterrupt src = .refused r) :
    src = .intr ∧ ∃ op lo hi : Byte, s.now.inta = .bytes op lo hi ∧ op ≠ 0xCD#8 ∧
      (∀ n : BitVec 3, op ≠ 0b11#2 ++ n ++ 0b111#3) ∧ r = .intaOpcode op := by
  rcases s.takeInterrupt_cases src with ⟨k, target, e, -, -⟩ | ⟨rfl, -⟩
  · cases e.symm.trans h
  · refine ⟨rfl, ?_⟩
    cases hinta : s.now.inta with
    | anyRestart => cases (takeInterrupt_of_anyRestart hinta).symm.trans h
    | bytes op lo hi =>
      have hcall : op ≠ 0xCD#8 := by
        rintro rfl
        cases (takeInterrupt_of_call hinta).symm.trans h
      have hrst : ∀ n : BitVec 3, op ≠ 0b11#2 ++ n ++ 0b111#3 := by
        rintro n rfl
        cases (takeInterrupt_of_restart hinta).symm.trans h
      exact ⟨op, lo, hi, rfl, hcall, hrst,
        (Host.Outcome.refused.inj ((takeInterrupt_of_other hinta hcall hrst).symm.trans h)).symm⟩

/-- Every instruction completes, so what is refused is the first byte fetched (`30_encoding.md` R89). -/
theorem State.undefined_of_runInstruction_refused {s : State} {r : Refusal} (h : s.runInstruction = .refused r) :
    s.fetch.1.1 ∈ undefinedOpcodes ∧ r = .undefinedOpcode s.fetch.1.1 := by
  cases hdecode : decodeBytes s.fetch.1.1 s.fetch.1.2.1 s.fetch.1.2.2 with
  | none =>
    rw [runInstruction_of_none hdecode] at h
    exact ⟨decodeBytes_eq_none_iff.mp hdecode, (Host.Outcome.refused.inj h).symm⟩
  | some i =>
    obtain ⟨t, ht, -⟩ := exec_envKept i { s.fetch.2 with eiShadow := false }
    cases ((runInstruction_of_some hdecode).trans ht).symm.trans h

/-! ### The obligations -/

/-- Settles O15: the reset state with the memory and the parameters of the state before it. -/
theorem systemResetAtABoundary : Obligations.SystemResetAtABoundary := fun _ h =>
  ⟨_, step_of_reset h, rfl, rfl, rfl, rfl, rfl, rfl, rfl, rfl, rfl, rfl, rfl⟩

/-- Settles O56: what is accepted requests, and every request but TRAP's needs the enable the shadow withholds; the
shadow is cleared before the instruction's rule, and EI alone sets it. -/
theorem eiShadowLastsOneInstruction : Obligations.EiShadowLastsOneInstruction := by
  refine ⟨fun s src hdelay hshadow hacc => ?_, fun s t i hexec hdecode hstep hi => ?_⟩
  · by_contra hsrc
    have hon : s.sample.enabled = true := State.enabled_of_requests (State.requests_of_acceptable hacc) hsrc
    have hoff : s.sample.enabled = false := State.enabled_of_eiShadow hdelay hshadow
    cases hon.symm.trans hoff
  · rw [step_of_executes hexec, State.runInstruction_of_some hdecode] at hstep
    exact of_exec (exec_eiShadow_kept hi _) hstep

/-- Settles O19: a reset and an idle boundary answer a state, so it is the acceptance or the instruction that refuses. -/
theorem stepRefusesOnlyWhatTheSpecRefuses : Obligations.StepRefusesOnlyWhatTheSpecRefuses := by
  intro s r h
  cases hreset : s.sample.now.reset with
  | true => cases (step_of_reset hreset).symm.trans h
  | false =>
    cases hacc : s.sample.acceptable with
    | some src =>
      rw [step_of_acceptable hreset hacc] at h
      obtain ⟨rfl, hinta⟩ := State.intr_of_takeInterrupt_refused h
      exact .inr ⟨rfl, hinta⟩
    | none =>
      cases hhalted : s.halted with
      | true => cases (step_of_idle hreset hacc hhalted).symm.trans h
      | false =>
        have hexec : s.Executes := ⟨hreset, hacc, hhalted⟩
        rw [step_of_executes hexec] at h
        exact .inl ⟨hexec, State.undefined_of_runInstruction_refused h⟩

end Sys2Proof.Machine
end
